-- ==== Sys2Proof/Word.lean ====
section
/-! DEFINITION. The words and the small finite index types of the Gabjet 1604 (00_scope.md, sections 2.5 and 2.6). -/

namespace Sys2Proof

/-- A byte of a frame, record or block. -/
abbrev Byte := BitVec 8

/-- A slot value, DAC code, calibration code or edit count: 0..65535 (00_scope.md 2.6). -/
abbrev Word := BitVec 16

/-- A parameter value or an ADC sample: 0..4095 (00_scope.md 2.6). -/
abbrev Word12 := BitVec 12

/-- V0–V15. -/
abbrev VoiceId := Fin 16

/-- Part 0 – part 3. -/
abbrev PartId := Fin 4

/-- PM00–PM47. -/
abbrev ParamId := Fin 48

/-- C00–C95. -/
abbrev ControlId := Fin 96

/-- Channel 0 – channel 15. -/
abbrev ChannelId := Fin 16

/-- A key, or a velocity once received: 0..127. -/
abbrev Key := Fin 128

/-- Slot 0 – slot 31 of a voice. -/
abbrev SlotId := Fin 32

/-- A position of the held-key pool (R13). -/
abbrev PoolPos := Fin 32

/-- A set of voices, bit v standing for Vv (R193: voice masks). -/
abbrev VoiceSet := BitVec 16

end Sys2Proof
end

