-- ==== Sys2Proof/Config.lean ====
section
/-! DEFINITION. What the part fixes: capacities (00_scope.md 1.2), periods in ticks of the 16 MHz reference clock, and the
one free value the spec leaves open. -/

namespace Sys2Proof.Config

/-- Ticks of the 16 MHz reference clock in one millisecond. -/
def ticksPerMs : Nat := 16000

/-- Ticks of the reference clock in 5 µs, the panel's settle and conversion times (R92). -/
def ticksPer5us : Nat := 80

/-- Request queue, response FIFO, notice queue and store queue capacities (00_scope.md 1.2). -/
def requestCap : Nat := 8
def responseCap : Nat := 8
def noticeCap : Nat := 32
def storeCap : Nat := 4

/-- Pickup table capacity (R87). -/
def pickupCap : Nat := 32

/-- The low-water level of the notice queue (R174). -/
def noticeLowWater : Nat := 24

/-- The largest count of the frequency counter (R130). -/
def countLimit : Nat := 16777215

/-- The largest payload of an Event Link frame (R164). -/
def maxPayload : Nat := 40

/-- FREE VALUE (log entry 5). Bit by bit, whether a page whose write times out or is cut by a reset keeps its old content (1)
or takes the new (0): R107 and R116 leave it open. The argument counts the draws, so that no two draws are tied. Unevaluable. -/
opaque pageMixture : Nat → BitVec 512

end Sys2Proof.Config
end

