-- ==== Sys2Proof/Syntax.lean ====
section
/-! DEFINITION. The commands of the part: one constructor per row of spec/opcode_table.json, with the operands its rule names. -/

namespace Sys2Proof

/-- One character received on EVIN: its 8 data bits, and whether its stop bit was not found (R164). -/
structure RxByte where
  val : Byte
  framingError : Bool
  deriving DecidableEq, Repr

/-- The kind and payload of an Event Link frame (R164, R194); length and check byte follow from them. -/
structure Frame where
  kind : Byte
  payload : List Byte
  deriving DecidableEq, Repr

/-- The commands, in the table's order. -/
inductive Instr where
  /-- POWER_ON (R119) -/
  | powerOn
  /-- RESET_PIN (R119): the pin is asserted -/
  | resetPin
  /-- FULL_RESET_BEGIN (R191) -/
  | fullResetBegin
  /-- HUNT_GOOD_FRAME (R165): the bytes received in HUNT -/
  | huntGoodFrame (bytes : List RxByte)
  /-- FRAME_GAP_TIMEOUT (R164): the bytes of the frame received before the gap -/
  | frameGapTimeout (bytes : List RxByte)
  /-- BAD_FRAME (R166): the bytes of the frame -/
  | badFrame (bytes : List RxByte)
  /-- IDLE_FRAME (R167) -/
  | idleFrame
  /-- IGNORED_FRAME (R167) -/
  | ignoredFrame (f : Frame)
  /-- NOTE_ON (R3) -/
  | noteOn (channel key velocity : Byte)
  /-- NOTE_OFF (R15) -/
  | noteOff (channel key : Byte)
  /-- SUSTAIN (R5): state 00H off, any other on -/
  | sustain (channel onOff : Byte)
  /-- BEND (R6): u, from which bend = u − 8192 (R194) -/
  | bend (channel : Byte) (u : Word)
  /-- CONTROL_FINE (R7) -/
  | controlFine (channel parameter low : Byte)
  /-- CONTROL_COARSE (R7) -/
  | controlCoarse (channel parameter high : Byte)
  /-- ALL_OFF (R8) -/
  | allOff (channel : Byte)
  /-- PATCH_SELECT (R9) -/
  | patchSelect (channel slot : Byte)
  /-- REQUEST_ARRIVAL (R169): a good frame of a request kind -/
  | requestArrival (f : Frame)
  /-- STATUS (R180): executes the request at the head of the request queue, as the next fourteen do (R177) -/
  | status
  /-- TABLE_READ (R182) -/
  | tableRead
  /-- TABLE_WRITE (R183) -/
  | tableWrite
  /-- TABLE_MERGE (R184) -/
  | tableMerge
  /-- PATCH_RECALL (R185) -/
  | patchRecall
  /-- PATCH_STORE (R114) -/
  | patchStore
  /-- SETUP_SAVE (R117) -/
  | setupSave
  /-- CAL_SAVE (R117) -/
  | calSave
  /-- TUNE_START (R186) -/
  | tuneStart
  /-- TUNE_ABORT (R143) -/
  | tuneAbort
  /-- BARRIER_APPLIED (R187) -/
  | barrierApplied
  /-- BARRIER_DELIVERED (R188) -/
  | barrierDelivered
  /-- DELIVERY_STAGE (R188) -/
  | deliveryStage
  /-- BARRIER_RELEASE (R187) -/
  | barrierRelease
  /-- COUNTER_SNAPSHOT (R189) -/
  | counterSnapshot
  /-- RESET_VOICES (R50) -/
  | resetVoices
  /-- RESET_FULL (R191) -/
  | resetFull
  /-- RESPONSE_JOIN (R169) -/
  | responseJoin
  /-- OUTBOUND_FRAME_END (R170) -/
  | outboundFrameEnd
  /-- MISSED_REFILL (R174) -/
  | missedRefill
  /-- OUTBOUND_IDLE_TIMEOUT (R170) -/
  | outboundIdleTimeout
  /-- SILENCE_ACTION (R168) -/
  | silenceAction
  /-- GLIDE_STEP (R58) -/
  | glideStep
  /-- DAMP_END (R36) of a voice -/
  | dampEnd (v : VoiceId)
  /-- RELEASE_DEADLINE_EXPIRY (R38) of a voice -/
  | releaseDeadlineExpiry (v : VoiceId)
  /-- SCAN_ROUND (R92) -/
  | scanRound
  /-- SCAN_SETTLE (R92) -/
  | scanSettle
  /-- SCAN_SAMPLE (R93): the sample of the conversion in progress -/
  | scanSample (sample : Word12)
  /-- STORE_OP_START (R108) -/
  | storeOpStart
  /-- PENDING_SELECT_PLACED (R110) -/
  | pendingSelectPlaced
  /-- RECALL_READ_END (R111) -/
  | recallReadEnd
  /-- NEXT_NOTE_COMMIT (R113) for a part -/
  | nextNoteCommit (p : PartId)
  /-- PAGE_TRANSFER_DONE (R107) -/
  | pageTransferDone
  /-- PAGE_WRITE_DONE (R107) -/
  | pageWriteDone
  /-- PAGE_TIMEOUT (R116) -/
  | pageTimeout
  /-- SETUP_LOAD (R120) -/
  | setupLoad
  /-- CAL_LOAD (R121) -/
  | calLoad
  /-- TUNER_TAKE_VOICE (R140) -/
  | tunerTakeVoice
  /-- MEASUREMENT_SETTLE_START (R131) -/
  | measurementSettleStart
  /-- TUNE_SETTLE_EXPIRY (R131) -/
  | tuneSettleExpiry
  /-- TUNE_EDGE (R130): a rising edge, `ticks` reference-clock ticks after the count was last brought up -/
  | tuneEdge (ticks : Nat)
  /-- COUNT_SATURATED (R130) -/
  | countSaturated
  /-- NO_SIGNAL_TIMEOUT (R130) -/
  | noSignalTimeout
  /-- DRIFT_PERIOD_EXPIRY (R144) -/
  | driftPeriodExpiry
  /-- RETUNE_RUN_START (R146) -/
  | retuneRunStart
  /-- VOICE_LINK_OPPORTUNITY (R153) -/
  | voiceLinkOpportunity
  /-- VOICE_LINK_FRAME_SENT (R148) -/
  | voiceLinkFrameSent
  /-- RESET_RELEASE (R119) -/
  | resetRelease
  deriving DecidableEq, Repr

end Sys2Proof
end

