-- ==== Sys2Proof/WellFormed.lean ====
section
/-! DEFINITION. Which commands are well formed: the operands a command's frame or event can carry. Every meaning is total;
what it does on an ill-formed command is said in log entry 1. -/

namespace Sys2Proof

/-- A payload fits a frame (R164: L is 0..40). -/
def Frame.fits (f : Frame) : Bool := f.payload.length ≤ Config.maxPayload

/-- The kind codes of the requests, 20H..2DH (R194). -/
def Frame.isRequest (f : Frame) : Bool := 0x20#8 ≤ f.kind && f.kind ≤ 0x2D#8

/-- The check of a command's operands. -/
def Instr.wf : Instr → Bool
  | .huntGoodFrame bytes => bytes ≠ []
  | .frameGapTimeout bytes => bytes.length ≤ Config.maxPayload + 2
  | .badFrame bytes => 2 ≤ bytes.length && bytes.length ≤ Config.maxPayload + 3
  | .ignoredFrame f => f.fits && !f.isRequest
  | .requestArrival f => f.fits && f.isRequest
  | .tuneEdge ticks => ticks ≤ Config.countLimit
  | _ => true

end Sys2Proof
end

