-- ==== Sys2Proof/Decode.lean ====
section
/-! DEFINITION. The table's decoder. spec/opcode_table.json gives no row any bits (its rows are operations and events, not
instruction words), so no word spells a command. The decoding of Event Link frames (R164, R192, R194) is in Machine/Operands.lean. -/

namespace Sys2Proof

/-- The command a word spells by the table's bits: none, for the table gives no row bits. -/
def decodeTableWord (_nbits _w : Nat) : Option Instr := none

end Sys2Proof
end

