-- ==== Sys2Proof/Machine/State.lean ====
section
/-! DEFINITION. The state of the part, block by block (00_scope.md, section 1), as plain data, and its value after power-on. -/

namespace Sys2Proof.Machine

open Sys2Proof

/-! ## Enumerations (R193) -/

/-- A tuned source of a voice. -/
inductive Source where
  | oscA | oscB | filter
  deriving DecidableEq, Repr

/-- The seven voice states (R22). -/
inductive VoiceState where
  | idle | held | sustained | releasing | damping | tuning | benched
  deriving DecidableEq, Repr

/-- What a damping voice takes up at its damp end (R21). -/
inductive Pending where
  | none
  | entry (p : PartId) (e : PoolPos)
  | tuner
  deriving DecidableEq, Repr

inductive PartMode where
  | poly | mono | unison
  deriving DecidableEq, Repr

inductive NotePriority where
  | last | low | high
  deriving DecidableEq, Repr

inductive StealPolicy where
  | oldest | quietest
  deriving DecidableEq, Repr

/-- When a recalled record is committed (R113). -/
inductive Timing where
  | now | nextNote
  deriving DecidableEq, Repr

inductive EntryState where
  | waiting | voiced
  deriving DecidableEq, Repr

inductive ControlType where
  | knob | switch
  deriving DecidableEq, Repr

inductive Takeover where
  | jump | pickup
  deriving DecidableEq, Repr

inductive Direction where
  | up | down
  deriving DecidableEq, Repr

/-- The last result of a calibration record (R125). -/
inductive LastResult where
  | never | pass | noSignal | outOfRange | tolerance | notMonotonic | aborted
  deriving DecidableEq, Repr

inductive TuneAtStart where
  | none | voidOnly | all
  deriving DecidableEq, Repr

inductive RunOrigin where
  | host | drift | startUp
  deriving DecidableEq, Repr

inductive RunMode where
  | forced | background
  deriving DecidableEq, Repr

/-- The result codes of a response (R178). -/
inductive ResultCode where
  | ok | accepted | unknown | range | readOnly | busy | state
  deriving DecidableEq, Repr

/-- The receiver states (R165, R166). -/
inductive RxState where
  | hunt | candidate | locked
  deriving DecidableEq, Repr

/-- The start-up phase (R119 to R122). -/
inductive Phase where
  | setup | cal | ready
  deriving DecidableEq, Repr

/-- The operation a STORE DONE or STORE FAULT names (R193). -/
inductive StoreKind where
  | patch | setup | cal
  deriving DecidableEq, Repr

inductive SetupResult where
  | loaded | defaults
  deriving DecidableEq, Repr

inductive CalResult where
  | loaded | none | fault
  deriving DecidableEq, Repr

/-- The 16 statistic counters, in the order of the table of R175. -/
inductive Stat where
  | framesGood | framesBad | resyncs | silences | requestsDropped | noticesLost | notesDropped | steals
  | revivals | recalls | recallFaults | storeFaults | sourcesTuned | sourcesFailed | driftAlarms | pickupOverflows
  deriving DecidableEq, Repr

/-! ## Note Router (R2, R10, R12, R13) -/

/-- An entry of the ZONE table (R2). -/
structure Zone where
  enabled : Bool
  channel : ChannelId
  keyLow : Key
  keyHigh : Key
  velLow : Key
  velHigh : Key
  part : PartId
  transpose : Int
  deriving DecidableEq, Repr

/-- An entry of the PART table (R10). -/
structure PartCfg where
  mode : PartMode
  unisonCount : Nat
  priority : NotePriority
  legato : Bool
  pool : VoiceSet
  maxVoices : Nat
  level : Nat
  steal : StealPolicy
  revive : Bool
  scale : Fin 4
  select : Timing
  deriving DecidableEq, Repr

/-- A held entry (R13). -/
structure HeldEntry where
  part : PartId
  channel : ChannelId
  sourceKey : Key
  soundingKey : Key
  vel : Key
  state : EntryState
  voices : VoiceSet
  deriving DecidableEq, Repr

/-- The Note Router. -/
structure Router where
  zones : Vector Zone 8
  parts : Vector PartCfg 4
  sustain : Vector Bool 4
  bend : Vector Int 4
  latches : Vector (Option (ParamId × Fin 64)) 16
  pool : Vector (Option HeldEntry) 32
  lists : Vector (List PoolPos) 4
  deriving DecidableEq, Repr

/-! ## Voice Allocator (R21, R23) -/

/-- A voice record (R21), with the damp timer (R34) and the notified condition (R45). Times are ticks left. -/
structure VoiceRec where
  state : VoiceState
  owner : Option PartId
  key : Option Key
  vel : Option Key
  release : Option Nat
  pending : Pending
  unisonIndex : Fin 8
  q : Option Int
  clamp : Bool
  benchA : Bool
  benchB : Bool
  damp : Option Nat
  notified : Bool
  deriving DecidableEq, Repr

/-- The Voice Allocator. -/
structure Alloc where
  voices : Vector VoiceRec 16
  freeQueue : List VoiceId
  gateList : List VoiceId
  releaseList : List VoiceId
  deriving DecidableEq, Repr

/-! ## Pitch Engine (R52) -/

structure Pitch where
  target : Vector (Option Int) 16
  unisonSize : Vector Nat 16
  filterNominal : Vector Bool 16
  slots : Vector (Vector Word 32) 16
  scale : Vector Int 48
  glideTimer : Option Nat
  deriving DecidableEq, Repr

/-! ## Parameter Memory (R76, R77, R79, R86, R87) -/

/-- An entry of the DESCRIPTOR table (R79). -/
structure Descriptor where
  min : Word12
  max : Word12
  routed : Option SlotId
  deriving DecidableEq, Repr

/-- An entry of the pickup table (R87). -/
structure PickupEntry where
  control : ControlId
  part : PartId
  param : ParamId
  target : Word12
  direction : Direction
  deriving DecidableEq, Repr

/-- The Parameter Memory. A window of none is INIT (R78). -/
structure ParamMem where
  values : Vector (Vector Word12 48) 4
  names : Vector (Vector Byte 12) 4
  desc : Vector Descriptor 48
  window : Vector (Option Byte) 4
  modified : Vector Bool 4
  editCount : Vector Word 4
  pickup : List PickupEntry
  deriving DecidableEq, Repr

/-! ## Panel Scanner (R92, R94 to R96) -/

/-- An entry of the CONTROL table (R95). -/
structure ControlCfg where
  type : ControlType
  deadBand : Byte
  persistence : Fin 8
  binding : Option (PartId × ParamId)
  takeover : Takeover
  report : Bool
  deriving DecidableEq, Repr

/-- An entry of the CONTROL STATE table (R96); a control is primed when it has a reported value. -/
structure ControlState where
  reported : Option Word12
  runCount : Nat
  deriving DecidableEq, Repr

/-- Where a scan round stands (R92). -/
inductive ScanRound where
  | none
  | settling (address : Fin 16)
  | converting (address : Fin 16) (input : Fin 6)
  deriving DecidableEq, Repr

structure Panel where
  scanMap : Vector (Option ControlId) 96
  controls : Vector ControlCfg 96
  states : Vector ControlState 96
  scanTimer : Option Nat
  round : ScanRound
  roundTimer : Option Nat
  mxa : Fin 16
  deriving DecidableEq, Repr

/-! ## Tuner (R125, R128 to R131, R139, R144, R145) -/

/-- A calibration record (R125). -/
structure CalRecord where
  valid : Bool
  last : LastResult
  codes : Vector Word 17
  deriving DecidableEq, Repr

/-- An entry of the TARGET table (R128): W periods, T ticks. -/
structure Target where
  w : Nat
  t : Nat
  deriving DecidableEq, Repr

/-- The TUNE CONFIG entry (R129): settle in half-milliseconds, timeout in ms, drift period in seconds (0 off). -/
structure TuneConfig where
  settle : Nat
  s0 : Nat
  tolShift : Nat
  firstBp : Nat
  lastBp : Nat
  timeout : Nat
  driftPeriod : Nat
  driftShift : Nat
  confirm : Nat
  autoRetune : Bool
  deriving DecidableEq, Repr

/-- The states of the frequency counter (R130). -/
inductive CounterState where
  | idle | armed | counting | done
  deriving DecidableEq, Repr

/-- The outcome of a measurement (R130). -/
inductive MeasOutcome where
  | count (m : Nat)
  | saturated
  | noSignal
  deriving DecidableEq, Repr

/-- A measurement in progress (R131), with what it read at its start. -/
structure Measurement where
  voice : VoiceId
  source : Source
  code : Word
  w : Nat
  settleTicks : Nat
  timeoutTicks : Nat
  deriving DecidableEq, Repr

/-- The search of one source (R132 to R135). `found` holds the new codes from `first` on, in ascending order. -/
structure SourceJob where
  voice : VoiceId
  source : Source
  s0 : Nat
  tolShift : Nat
  first : Nat
  last : Nat
  old : CalRecord
  found : List Int
  bp : Nat
  w : Nat
  t : Nat
  code : Int
  step : Nat
  limit : Bool
  verifying : Bool
  deriving DecidableEq, Repr

/-- The run record (R139). The source scope has bit 0 OSC A, bit 1 OSC B, bit 2 FILTER; the current source is the job's. -/
structure Run where
  origin : RunOrigin
  mode : RunMode
  voices : VoiceSet
  sources : BitVec 3
  notDone : VoiceSet
  current : Option VoiceId
  passed : Nat
  failed : Nat
  aborted : Bool
  deriving DecidableEq, Repr

/-- A drift check in progress (R144). -/
structure DriftCheck where
  voice : VoiceId
  bp : Nat
  w : Nat
  t : Nat
  shift : Nat
  deriving DecidableEq, Repr

structure Tuner where
  cal : Vector CalRecord 48
  target : Vector Target 17
  cfg : TuneConfig
  counter : CounterState
  count : Nat
  edges : Nat
  noSignal : Option Nat
  settle : Option Nat
  meas : Option Measurement
  job : Option SourceJob
  run : Option Run
  check : Option DriftCheck
  selection : Option (VoiceId × Source)
  driftTimer : Option Nat
  lastChecked : VoiceId
  driftCount : Vector Nat 16
  retuneSet : VoiceSet
  retuneDue : Bool
  deriving DecidableEq, Repr

/-! ## Store Controller (R106 to R118) -/

/-- The serial memory: (address, byte) pairs, addresses strictly rising, no entry equal to FFH (log entry 4). -/
abbrev Memory := List Host.Cell

/-- The SETUP OPTIONS entry (R118). -/
structure SetupOptions where
  dampTime : Nat
  scanPeriod : Nat
  panelReport : Bool
  startRecall : Vector (Option Byte) 4
  loadCal : Bool
  tuneAtStart : TuneAtStart
  deriving DecidableEq, Repr

/-- What SETUP SAVE copies and SETUP LOAD reads (R117, R120). -/
structure SetupTables where
  zones : Vector Zone 8
  parts : Vector PartCfg 4
  desc : Vector Descriptor 48
  scale : Vector Int 48
  target : Vector Target 17
  cfg : TuneConfig
  scanMap : Vector (Option ControlId) 96
  controls : Vector ControlCfg 96
  options : SetupOptions
  deriving DecidableEq, Repr

/-- The kinds of store operation and their data (R108). -/
inductive StoreOp where
  | recallRead (p : PartId) (slot : Byte) (timing : Timing)
  | patchWrite (p : PartId) (slot : Byte) (values : Vector Word12 48) (name : Vector Byte 12) (edit : Word)
  | setupSave (t : SetupTables)
  | calSave (records : Vector CalRecord 48)
  | setupLoad
  | calLoad
  deriving DecidableEq, Repr

/-- An entry of the store queue, with the mark of a barrier (R187). -/
structure StoreEntry where
  op : StoreOp
  marked : Bool
  deriving DecidableEq, Repr

/-- The serial memory port (R107), with the page of the operation under write. -/
inductive Port where
  | idle
  | reading
  | writing (page : Nat)
  | polling (page : Nat)
  deriving DecidableEq, Repr

/-- A staged record (R112). -/
structure Staged where
  slot : Byte
  name : Vector Byte 12
  values : Vector Word 48
  deriving DecidableEq, Repr

/-- A pending select (R110), with the mark of a barrier (R187). -/
structure PendingSelect where
  slot : Byte
  timing : Timing
  marked : Bool
  deriving DecidableEq, Repr

structure Store where
  queue : List StoreEntry
  port : Port
  pageTimer : Option Nat
  staging : Vector (Option Staged) 4
  selects : Vector (Option PendingSelect) 4
  options : SetupOptions
  setupResult : SetupResult
  defaultTables : BitVec 24
  calResult : CalResult
  mem : Memory
  memFitted : Bool
  deriving DecidableEq, Repr

/-! ## Voice Link Transmitter (R149, R151, R152, R156, R158, R161, R162) -/

/-- A gate command (R151). -/
inductive GateCmd where
  | on | off | damp
  deriving DecidableEq, Repr

/-- An entry of a command list, with its delivery mark (R161). -/
structure ListedCmd where
  cmd : GateCmd
  marked : Bool
  deriving DecidableEq, Repr

/-- A command of the tune command latch (R156). -/
inductive TuneCmd where
  | select (v : VoiceId) (src : Source)
  | release
  deriving DecidableEq, Repr

/-- A Voice Link frame (08_voice_link.md 8.1, R197). -/
inductive VlFrame where
  | slotWrite (v : VoiceId) (k : SlotId) (value : Word)
  | gate (v : VoiceId) (c : GateCmd)
  | tune (c : TuneCmd)
  | allMute
  deriving DecidableEq, Repr

/-- What has become of the source of the frame on the line since it was chosen (log entry 10): still there; replaced by a newer
command; cleared by a mute request. -/
inductive LineStatus where
  | live | replaced | muted
  deriving DecidableEq, Repr

structure VlLine where
  frame : VlFrame
  status : LineStatus
  deriving DecidableEq, Repr

structure VLink where
  sent : Vector (Vector (Option Word) 32) 16
  lists : Vector (List ListedCmd) 16
  queue : List VoiceId
  latch : Option TuneCmd
  cardSel : Option (VoiceId × Source)
  mute : Bool
  scanPtr : Fin 512
  refreshPtr : Fin 512
  slotMarks : Vector (BitVec 32) 16
  line : Option VlLine
  deriving DecidableEq, Repr

/-! ## Link Interface and Request Processor (R164 to R180) -/

/-- A response (R177); `fullReset` tells the OK of a RESET FULL, whose end begins the reset (R191). -/
structure Response where
  kind : Byte
  tag : Byte
  result : ResultCode
  data : List Byte
  fullReset : Bool
  deriving DecidableEq, Repr

/-- A notice (R171). -/
inductive Notice where
  | controlChange (c : ControlId) (value : Word12) (detached : Bool)
  | recallDone (p : PartId) (slot : Byte) (committed : Bool)
  | recallFault (p : PartId) (slot : Byte) (check : Bool)
  | storeDone (k : StoreKind) (p : Option PartId) (slot : Option Byte)
  | storeFault (k : StoreKind) (p : Option PartId) (slot : Option Byte)
  | voiceTuned (v : VoiceId) (a b f : LastResult)
  | tuneDone (o : RunOrigin) (passed failed : Nat) (aborted : Bool)
  | drift (v : VoiceId) (bp : Nat) (error : Nat)
  | bench (v : VoiceId) (benched : Bool) (a b : Bool)
  | drop (p : PartId) (count : Nat)
  | overrun (count : Nat)
  | link (count : Nat)
  | silence
  | startDone (r : SetupResult) (tables : BitVec 24) (c : CalResult)
  deriving DecidableEq, Repr

/-- The silence timer (R168). -/
inductive SilenceTimer where
  | stopped
  | running (ticks : Nat)
  | expired
  deriving DecidableEq, Repr

/-- A frame on EVOUT (R170). -/
inductive OutFrame where
  | response (r : Response)
  | notice (n : Notice)
  | idle
  deriving DecidableEq, Repr

structure Link where
  rx : RxState
  held : List RxByte
  badRun : Nat
  lossFlag : Bool
  silence : SilenceTimer
  requests : List Frame
  responses : List Response
  notices : List Notice
  missed : BitVec 96
  refillsDue : Nat
  lost : Bool
  overrun : Bool
  idleTimer : Option Nat
  counters : Vector Word 16
  line : Option OutFrame
  deriving DecidableEq, Repr

/-- What the Request Processor has in hand (R177): nothing; a response that waits for room (R169); a barrier, of kind DELIVERED
or not and at its delivery stage or not (R187, R188); or a RESET FULL whose OK has joined the FIFO (R191). -/
inductive Hand where
  | free
  | held (r : Response)
  | barrier (delivered atDelivery : Bool)
  | fullReset
  deriving DecidableEq, Repr

structure ReqProc where
  phase : Phase
  hand : Hand
  deriving DecidableEq, Repr

/-! ## The whole machine -/

structure State where
  inReset : Bool
  link : Link
  req : ReqProc
  router : Router
  alloc : Alloc
  pitch : Pitch
  params : ParamMem
  panel : Panel
  store : Store
  tuner : Tuner
  vlink : VLink
  freeCount : Nat
  pending : List Instr
  deriving DecidableEq, Repr

/-- Why a step could stop with a fault. The spec gives the part no machine fault, so no meaning raises one. -/
inductive Fault where
  /-- Raised by nothing: it stands for a stop the spec does not give. Safe. -/
  | none
  deriving DecidableEq, Repr

/-- Why a step could be refused. -/
inductive Refusal where
  /-- Raised by a refused arm of exec, for a row not yet modelled. Safe. No arm of this model is refused. -/
  | notModelled (mnemonic : String)
  deriving DecidableEq, Repr

/-! ## Values after power-on -/

/-- Z0 by R2; Z1–Z7 the same but not enabled. -/
def Zone.default (enabled : Bool) : Zone :=
  { enabled, channel := 0, keyLow := 0, keyHigh := 127, velLow := 1, velHigh := 127, part := 0, transpose := 0 }

/-- The defaults of R10. -/
def PartCfg.default : PartCfg :=
  { mode := .poly, unisonCount := 4, priority := .last, legato := true, pool := 0xFFFF#16, maxVoices := 16, level := 1,
    steal := .oldest, revive := true, scale := 0, select := .now }

/-- The Note Router after power-on (R20). -/
def Router.powerOn : Router :=
  { zones := #v[.default true, .default false, .default false, .default false,
                .default false, .default false, .default false, .default false]
    parts := .replicate 4 .default
    sustain := .replicate 4 false
    bend := .replicate 4 0
    latches := .replicate 16 none
    pool := .replicate 32 none
    lists := .replicate 4 [] }

/-- A voice after power-on (R21, R45). -/
def VoiceRec.powerOn : VoiceRec :=
  { state := .benched, owner := none, key := none, vel := none, release := none, pending := .none, unisonIndex := 0,
    q := none, clamp := false, benchA := true, benchB := true, damp := none, notified := true }

/-- The Voice Allocator after power-on (R51). -/
def Alloc.powerOn : Alloc :=
  { voices := .replicate 16 .powerOn, freeQueue := [], gateList := [], releaseList := [] }

/-- The Pitch Engine after power-on (R52, R74). -/
def Pitch.powerOn : Pitch :=
  { target := .replicate 16 none, unisonSize := .replicate 16 1, filterNominal := .replicate 16 true,
    slots := .replicate 16 (.replicate 32 0), scale := .replicate 48 0, glideTimer := none }

/-- The INIT values (R78 and the table of the engine parameters). -/
def initValues : Vector Word12 48 :=
  #v[2048, 2048, 2048, 2048, 4095, 2048, 0, 340, 0, 1024, 0, 0, 0, 0, 0, 0,
     0, 0, 0, 0, 0, 0, 0, 0, 0, 0, 0, 0, 0, 0, 0, 0,
     0, 0, 0, 0, 0, 0, 0, 0, 0, 0, 0, 0, 0, 0, 0, 0]

/-- "INIT" followed by eight spaces (R77). -/
def initName : Vector Byte 12 :=
  #v[0x49, 0x4E, 0x49, 0x54, 0x20, 0x20, 0x20, 0x20, 0x20, 0x20, 0x20, 0x20]

/-- Full range and no routed slot: PM00–PM10 and PM39–PM47 (R79). -/
def Descriptor.unrouted : Descriptor := { min := 0, max := 4095, routed := none }

/-- Full range, routed to slot k: PM11–PM38 (R79). -/
def Descriptor.toSlot (k : SlotId) : Descriptor := { min := 0, max := 4095, routed := some k }

/-- The DESCRIPTOR table's defaults: PM(11 + k) to slot 4 + k for k in 0..27 (R79). -/
def defaultDescriptors : Vector Descriptor 48 :=
  #v[.unrouted, .unrouted, .unrouted, .unrouted, .unrouted, .unrouted, .unrouted, .unrouted, .unrouted, .unrouted, .unrouted,
     .toSlot 4, .toSlot 5, .toSlot 6, .toSlot 7, .toSlot 8, .toSlot 9, .toSlot 10, .toSlot 11, .toSlot 12, .toSlot 13,
     .toSlot 14, .toSlot 15, .toSlot 16, .toSlot 17, .toSlot 18, .toSlot 19, .toSlot 20, .toSlot 21, .toSlot 22, .toSlot 23,
     .toSlot 24, .toSlot 25, .toSlot 26, .toSlot 27, .toSlot 28, .toSlot 29, .toSlot 30, .toSlot 31,
     .unrouted, .unrouted, .unrouted, .unrouted, .unrouted, .unrouted, .unrouted, .unrouted, .unrouted]

/-- The Parameter Memory after power-on (R76 to R79, R86, R87). -/
def ParamMem.powerOn : ParamMem :=
  { values := .replicate 4 initValues, names := .replicate 4 initName, desc := defaultDescriptors,
    window := .replicate 4 none, modified := .replicate 4 false, editCount := .replicate 4 0, pickup := [] }

/-- The defaults of R95. -/
def ControlCfg.default : ControlCfg :=
  { type := .knob, deadBand := 8, persistence := 1, binding := none, takeover := .jump, report := true }

/-- The Panel Scanner after power-on (R105). -/
def Panel.powerOn : Panel :=
  { scanMap := ⟨((List.finRange 96).map some).toArray, by simp⟩
    controls := .replicate 96 .default
    states := .replicate 96 { reported := none, runCount := 0 }
    scanTimer := none, round := .none, roundTimer := none, mxa := 0 }

/-- A record after power-on (R125). -/
def CalRecord.powerOn : CalRecord := { valid := false, last := .never, codes := .replicate 17 0 }

/-- The TARGET table's defaults (R128). -/
def defaultTargets : Vector Target 17 :=
  #v[⟨1, 1956995⟩, ⟨1, 1232830⟩, ⟨1, 776634⟩, ⟨1, 489249⟩, ⟨1, 308207⟩, ⟨1, 194159⟩, ⟨1, 122312⟩, ⟨1, 77052⟩, ⟨1, 48540⟩,
     ⟨1, 30578⟩, ⟨1, 19263⟩, ⟨2, 24270⟩, ⟨2, 15289⟩, ⟨4, 19263⟩, ⟨4, 12135⟩, ⟨8, 15289⟩, ⟨8, 9631⟩]

/-- The defaults of R129. -/
def TuneConfig.default : TuneConfig :=
  { settle := 4, s0 := 512, tolShift := 10, firstBp := 5, lastBp := 14, timeout := 50, driftPeriod := 20, driftShift := 8,
    confirm := 2, autoRetune := false }

/-- The Tuner after power-on (R147). -/
def Tuner.powerOn : Tuner :=
  { cal := .replicate 48 .powerOn, target := defaultTargets, cfg := .default, counter := .idle, count := 0, edges := 0,
    noSignal := none, settle := none, meas := none, job := none, run := none, check := none, selection := none,
    driftTimer := none, lastChecked := 15, driftCount := .replicate 16 0, retuneSet := 0, retuneDue := false }

/-- The defaults of R118. -/
def SetupOptions.default : SetupOptions :=
  { dampTime := 4, scanPeriod := 4, panelReport := true, startRecall := .replicate 4 none, loadCal := true,
    tuneAtStart := .voidOnly }

/-- The nine tables of the setup block as bits by table number (R194, R195): 0, 1, 5, 8, 10, 11, 13, 15, 16. -/
def allSetupTables : BitVec 24 := 0x01AD23#24

/-- The Store Controller after power-on (R119, R123), its queue holding the two loads of start-up. -/
def Store.powerOn : Store :=
  { queue := [⟨.setupLoad, false⟩, ⟨.calLoad, false⟩], port := .idle, pageTimer := none, staging := .replicate 4 none,
    selects := .replicate 4 none, options := .default, setupResult := .defaults, defaultTables := allSetupTables,
    calResult := .none, mem := [], memFitted := true }

/-- The Voice Link Transmitter after power-on (R163). -/
def VLink.powerOn : VLink :=
  { sent := .replicate 16 (.replicate 32 none), lists := .replicate 16 [], queue := [], latch := none, cardSel := none,
    mute := true, scanPtr := 511, refreshPtr := 511, slotMarks := .replicate 16 0, line := none }

/-- The Link Interface after power-on (R176). -/
def Link.powerOn : Link :=
  { rx := .hunt, held := [], badRun := 0, lossFlag := false, silence := .stopped, requests := [], responses := [],
    notices := [], missed := 0, refillsDue := 0, lost := false, overrun := false, idleTimer := some (100 * Config.ticksPerMs),
    counters := .replicate 16 0, line := none }

/-- The machine right after power-on: every block at its power-on values, the phase SETUP, the store queue holding SETUP LOAD
and CAL LOAD (R119). -/
def State.reset : State :=
  { inReset := false, link := .powerOn, req := { phase := .setup, hand := .free }, router := .powerOn, alloc := .powerOn,
    pitch := .powerOn, params := .powerOn, panel := .powerOn, store := .powerOn, tuner := .powerOn, vlink := .powerOn,
    freeCount := 0, pending := [] }

/-! ## Whole-block updates -/

def State.withLink (s : State) (x : Link) : State := { s with link := x }
def State.withReq (s : State) (x : ReqProc) : State := { s with req := x }
def State.withRouter (s : State) (x : Router) : State := { s with router := x }
def State.withAlloc (s : State) (x : Alloc) : State := { s with alloc := x }
def State.withPitch (s : State) (x : Pitch) : State := { s with pitch := x }
def State.withParams (s : State) (x : ParamMem) : State := { s with params := x }
def State.withPanel (s : State) (x : Panel) : State := { s with panel := x }
def State.withStore (s : State) (x : Store) : State := { s with store := x }
def State.withTuner (s : State) (x : Tuner) : State := { s with tuner := x }
def State.withVlink (s : State) (x : VLink) : State := { s with vlink := x }

end Sys2Proof.Machine
end

