-- ==== Sys2Proof/Machine/Ops.lean ====
section
/-! DEFINITION. The operations that several blocks share: access to voices, parts and the held-key pool; the voice lists; the
statistic counters; the notice queue, the response FIFO and the outbound line; gate commands and tune commands placed for the
Voice Link; the serial memory. -/

namespace Sys2Proof.Machine

open Sys2Proof

/-! ## Small helpers -/

/-- `n` as an index below `k`, where it is one. -/
def fin? (n k : Nat) : Option (Fin k) := if h : n < k then some ⟨n, h⟩ else none

/-- A list of the right length as a vector. -/
def toVector? {α : Type} (n : Nat) (l : List α) : Option (Vector α n) :=
  if h : l.length = n then some ⟨l.toArray, by simpa using h⟩ else none

/-- Each element of a vector changed. -/
def mapVec {α β : Type} {n : Nat} (f : α → β) (v : Vector α n) : Vector β n := Vector.ofFn (fun i : Fin n => f v[i])

/-- Bytes of a two-byte quantity, high byte first (R192). -/
def bytesOfWord (w : Word) : List Byte := [w.extractLsb' 8 8, w.extractLsb' 0 8]

/-- The two-byte quantity, high byte first (R192). -/
def wordOfBytes (hi lo : Byte) : Word := hi ++ lo

/-- clamp(x) to a..b (R1). -/
def clampInt (lo hi x : Int) : Int := if x < lo then lo else if hi < x then hi else x

/-- sign(x) (R1). -/
def signInt (x : Int) : Int := if x < 0 then -1 else if 0 < x then 1 else 0

/-- |x| (R1). -/
def absInt (x : Int) : Int := if x < 0 then -x else x

/-- V0, V1, …, V15: voice order (00_scope.md 2.7). -/
def allVoices : List VoiceId := List.finRange 16

/-- Part 0 first. -/
def allParts : List PartId := List.finRange 4

/-- The voices of a set in voice order. -/
def members (set : VoiceSet) : List VoiceId := allVoices.filter (fun v => set.getLsbD v.val)

/-- The set of one voice. -/
def voiceBit (v : VoiceId) : VoiceSet := 1#16 <<< v.val

/-- The set with a voice added. -/
def insertVoice (set : VoiceSet) (v : VoiceId) : VoiceSet := set ||| voiceBit v

/-- The set with a voice taken out. -/
def eraseVoice (set : VoiceSet) (v : VoiceId) : VoiceSet := set &&& ~~~ (voiceBit v)

/-- Runs `f` for each element in turn. -/
def forEach {α : Type} (xs : List α) (f : α → State → State) (s : State) : State := xs.foldl (fun s x => f x s) s

/-! ## Voices and their lists -/

namespace State

/-- The record of a voice. -/
def voice (s : State) (v : VoiceId) : VoiceRec := s.alloc.voices[v]

/-- Changes the record of a voice. -/
def modVoice (s : State) (v : VoiceId) (f : VoiceRec → VoiceRec) : State :=
  s.withAlloc { s.alloc with voices := s.alloc.voices.set v (f s.alloc.voices[v]) }

/-- The settings of a part. -/
def part (s : State) (p : PartId) : PartCfg := s.router.parts[p]

/-- The held entry at a pool position. -/
def entry (s : State) (e : PoolPos) : Option HeldEntry := s.router.pool[e]

/-- The ordered list of a part's entries, oldest press first (R13). -/
def partList (s : State) (p : PartId) : List PoolPos := s.router.lists[p]

def setEntry (s : State) (e : PoolPos) (x : Option HeldEntry) : State :=
  s.withRouter { s.router with pool := s.router.pool.set e x }

def modEntry (s : State) (e : PoolPos) (f : HeldEntry → HeldEntry) : State :=
  s.withRouter { s.router with pool := s.router.pool.set e (s.router.pool[e].map f) }

def setPartList (s : State) (p : PartId) (l : List PoolPos) : State :=
  s.withRouter { s.router with lists := s.router.lists.set p l }

def setSustain (s : State) (p : PartId) (b : Bool) : State :=
  s.withRouter { s.router with sustain := s.router.sustain.set p b }

/-- The calibration record of a source: entry 3 × v + s (R125). -/
def calIndex (v : VoiceId) (src : Source) : Fin 48 :=
  match src with
  | .oscA => ⟨3 * v.val, by omega⟩
  | .oscB => ⟨3 * v.val + 1, by omega⟩
  | .filter => ⟨3 * v.val + 2, by omega⟩

def cal (s : State) (v : VoiceId) (src : Source) : CalRecord := s.tuner.cal[calIndex v src]

/-- Both oscillator records of the voice are VALID. -/
def oscValid (s : State) (v : VoiceId) : Bool := (s.cal v .oscA).valid && (s.cal v .oscB).valid

end State

/-- HELD, SUSTAINED and RELEASING: the states in which a voice sounds and is computed (R53). -/
def VoiceState.sounding : VoiceState → Bool
  | .held | .sustained | .releasing => true
  | _ => false

/-- A list without a voice; the others keep their order (R23). -/
def dropVoice (v : VoiceId) (l : List VoiceId) : List VoiceId := l.filter (· ≠ v)

/-- The free queue, gate list and release list when voice `v` enters state `st` (R23): it joins the tail of the list of its new
state and leaves the others; from HELD to SUSTAINED it keeps its place in the gate list. -/
def enterLists (v : VoiceId) (st : VoiceState) (a : Alloc) : Alloc :=
  { a with
    freeQueue := if st = .idle then dropVoice v a.freeQueue ++ [v] else dropVoice v a.freeQueue
    gateList :=
      match st with
      | .held => dropVoice v a.gateList ++ [v]
      | .sustained => if v ∈ a.gateList then a.gateList else a.gateList ++ [v]
      | _ => dropVoice v a.gateList
    releaseList := if st = .releasing then dropVoice v a.releaseList ++ [v] else dropVoice v a.releaseList }

/-- Every move of a voice between states (R22): the record's state and the three lists change together. -/
def moveVoice (v : VoiceId) (st : VoiceState) (s : State) : State :=
  (s.withAlloc (enterLists v st s.alloc)).modVoice v (fun r => { r with state := st })

/-- A gate-on of a voice that is already HELD: it moves to the tail of the gate list (R23). -/
def regate (v : VoiceId) (s : State) : State :=
  if v ∈ s.alloc.gateList then s.withAlloc { s.alloc with gateList := dropVoice v s.alloc.gateList ++ [v] } else s

/-- Whether a part owns a voice (R24). -/
def ownedBy (s : State) (p : PartId) (v : VoiceId) : Bool :=
  match (s.voice v).state with
  | .held | .sustained | .releasing => (s.voice v).owner = some p
  | .damping =>
    match (s.voice v).pending with
    | .entry q _ => q = p
    | _ => false
  | _ => false

/-- The number of voices a part owns (R24). -/
def ownedCount (s : State) (p : PartId) : Nat := (allVoices.filter (ownedBy s p)).length

/-- The part owns as many voices as its max voices (R26). -/
def atMax (s : State) (p : PartId) : Bool := (s.part p).maxVoices ≤ ownedCount s p

/-- The voice is in the part's pool. -/
def inPool (s : State) (p : PartId) (v : VoiceId) : Bool := (s.part p).pool.getLsbD v.val

/-- The voices a part sounds on: owned, and HELD, SUSTAINED or RELEASING. -/
def soundsFor (s : State) (p : PartId) (v : VoiceId) : Bool :=
  (s.voice v).state.sounding && (s.voice v).owner = some p

/-- The voices damping toward entry `e` of part `p`. -/
def dampingToward (s : State) (p : PartId) (e : PoolPos) : List VoiceId :=
  allVoices.filter (fun v => (s.voice v).state = .damping && (s.voice v).pending = .entry p e)

/-- The release estimate in ms from PM09 (R54). -/
def releaseMs (v : Word12) : Nat := v.toNat * v.toNat / 2048 + 5

/-! ## Statistic counters (R175) -/

/-- The place of a counter in the table of R175. -/
def Stat.index : Stat → Fin 16
  | .framesGood => 0 | .framesBad => 1 | .resyncs => 2 | .silences => 3
  | .requestsDropped => 4 | .noticesLost => 5 | .notesDropped => 6 | .steals => 7
  | .revivals => 8 | .recalls => 9 | .recallFaults => 10 | .storeFaults => 11
  | .sourcesTuned => 12 | .sourcesFailed => 13 | .driftAlarms => 14 | .pickupOverflows => 15

/-- One more, stopping at 65535 (R1, R175). -/
def satInc (w : Word) : Word := if w = 0xFFFF#16 then w else w + 1

def Link.bump (l : Link) (c : Stat) : Link := { l with counters := l.counters.set c.index (satInc l.counters[c.index]) }

/-- Counts one event (R175). -/
def bump (c : Stat) (s : State) : State := s.withLink (s.link.bump c)

/-! ## The outbound line (R170) -/

/-- The transmitter's choice while the line is free: the head response, else the head notice. A notice that leaves 24 or fewer
behind makes a missed-set refill due (R174). -/
def startOutbound (l : Link) : Link :=
  match l.line with
  | some _ => l
  | none =>
    match l.responses with
    | r :: rs => { l with line := some (.response r), responses := rs }
    | [] =>
      match l.notices with
      | n :: ns =>
        { l with line := some (.notice n), notices := ns,
                 refillsDue := if ns.length ≤ Config.noticeLowWater ∧ l.missed ≠ 0 then l.refillsDue + 1 else l.refillsDue }
      | [] => l

/-! ## The notice queue (R171 to R173) -/

/-- Two notices are of one coalescing kind and for the same thing (R172). -/
def Notice.sameKey : Notice → Notice → Bool
  | .controlChange c _ _, .controlChange d _ _ => c = d
  | .drop p _, .drop q _ => p = q
  | .overrun _, .overrun _ => true
  | .link _, .link _ => true
  | _, _ => false

/-- A queued notice updated in place by an offer of the same key (R172). -/
def Notice.merge (queued offer : Notice) : Notice :=
  match queued, offer with
  | .drop p n, .drop _ _ => .drop p (min 255 (n + 1))
  | .overrun n, .overrun _ => .overrun (min 255 (n + 1))
  | .link n, .link _ => .link (min 255 (n + 1))
  | _, offer => offer

/-- The control of a CONTROL CHANGE. -/
def Notice.control? : Notice → Option ControlId
  | .controlChange c _ _ => some c
  | _ => none

/-- Sets or clears a mark of the missed-control set (R173). -/
def setMissed (m : BitVec 96) (c : ControlId) (b : Bool) : BitVec 96 :=
  if b then m ||| (1#96 <<< c.val) else m &&& ~~~ (1#96 <<< c.val)

/-- Places an offer: merge, room or full, the first that applies (R171 cases 2 to 4, R173). -/
def placeNotice (n : Notice) (l : Link) : Link :=
  if l.notices.any (Notice.sameKey n) then
    { l with notices := l.notices.map (fun m => if n.sameKey m then m.merge n else m) }
  else if l.notices.length < Config.noticeCap then
    { l with notices := l.notices ++ [n],
             missed := match n.control? with
               | some c => setMissed l.missed c false
               | none => l.missed }
  else
    match n.control? with
    | some c => { l with missed := setMissed l.missed c true }
    | none => { l.bump .noticesLost with lost := true }

/-- Offers a notice (R171): discarded before READY; otherwise placed, and sent at once if the line is free (R170). -/
def offerNotice (n : Notice) (s : State) : State :=
  if s.req.phase = .ready then s.withLink (startOutbound (placeNotice n s.link)) else s

/-! ## Responses (R169, R177) -/

/-- The tag byte of a request: the first byte of its payload, 00H for an empty one (R177). -/
def tagOf (f : Frame) : Byte := f.payload.headD 0

/-- A response that is ready joins the FIFO and releases its request from the head; when the FIFO is full it is held (R169). -/
def joinResponse (r : Response) (s : State) : State :=
  if s.link.responses.length < Config.responseCap then
    (s.withLink (startOutbound { s.link with responses := s.link.responses ++ [r], requests := s.link.requests.tail })).withReq
      { s.req with hand := if r.fullReset then .fullReset else .free }
  else s.withReq { s.req with hand := .held r }

/-- Answers the request at the head of the queue with a result and data (R177). -/
def answer (result : ResultCode) (data : List Byte) (s : State) : State :=
  match s.link.requests with
  | f :: _ => joinResponse { kind := f.kind, tag := tagOf f, result, data, fullReset := false } s
  | [] => s

/-! ## Gate commands (R151, R152, R161) -/

/-- The merge of command X with a list of the one command B (R151); `true` when a new command takes B's place
(the two cells of [DAMP] that absorb X leave B itself). -/
def mergeOne (b : ListedCmd) (x : GateCmd) : List ListedCmd × Bool :=
  match b.cmd, x with
  | .on, .on => ([⟨.on, b.marked⟩], true)
  | .on, .off => ([b, ⟨.off, false⟩], false)
  | .on, .damp => ([⟨.damp, b.marked⟩], true)
  | .off, .on => ([b, ⟨.on, false⟩], false)
  | .off, .off => ([⟨.off, b.marked⟩], true)
  | .off, .damp => ([⟨.damp, b.marked⟩], true)
  | .damp, .on => ([b, ⟨.on, false⟩], false)
  | .damp, .off => ([b], false)
  | .damp, .damp => ([b], false)

/-- The merge of command X into a voice's list (R151), with the marks moved as R161 states; `true` when the list's first command
has been replaced. -/
def mergeCmd (l : List ListedCmd) (x : GateCmd) : List ListedCmd × Bool :=
  match l with
  | [] => ([⟨x, false⟩], false)
  | [b] => mergeOne b x
  | a :: b :: _ =>
    match mergeOne b x with
    | ([r], _) => ([a, r], false)
    | (r :: rest, _) => (⟨r.cmd, r.marked || a.marked⟩ :: rest, true)
    | ([], _) => ([a], false)

/-- The frame on the line is a gate frame of voice `v`. -/
def VlLine.isGateOf (v : VoiceId) (l : VlLine) : Bool :=
  match l.frame with
  | .gate w _ => w = v
  | _ => false

/-- Issues a gate command for a voice: merged into its list, the voice joining the queue (R151, R152). A command whose frame is on
the line and is replaced by the merge is no longer the frame's source (log entry 10). -/
def VLink.issue (v : VoiceId) (x : GateCmd) (k : VLink) : VLink :=
  let (l, replaced) := mergeCmd k.lists[v] x
  { k with
    lists := k.lists.set v l
    queue := if v ∈ k.queue then k.queue else k.queue ++ [v]
    line := if replaced then
        k.line.map (fun f => if f.isGateOf v && f.status = .live then { f with status := .replaced } else f)
      else k.line }

/-- The Voice Allocator's gate command (R25). -/
def issueGate (v : VoiceId) (x : GateCmd) (s : State) : State := s.withVlink (s.vlink.issue v x)

/-! ## Tune commands (R156) -/

/-- The card selection a tune command leaves. -/
def TuneCmd.selects : TuneCmd → Option (VoiceId × Source)
  | .select v src => some (v, src)
  | .release => none

/-- The tune command whose frame is on the line, unless a mute request has come since. -/
def VLink.latchOnLine (k : VLink) : Option TuneCmd :=
  match k.line with
  | some ⟨.tune _, .muted⟩ => none
  | some ⟨.tune c, _⟩ => some c
  | _ => none

/-- The card selection once the frame on the line has left (log entry 10). -/
def VLink.selectionAfterLine (k : VLink) : Option (VoiceId × Source) :=
  match k.latchOnLine with
  | some c => c.selects
  | none => k.cardSel

/-- Places a command in the latch: it replaces what the latch holds, and is dropped as sent at once if it would leave the card
selection as it stands (R156). -/
def VLink.place (c : TuneCmd) (k : VLink) : VLink :=
  { k with
    latch := if c.selects = k.selectionAfterLine then none else some c
    line := k.line.map (fun f =>
      match f.frame, f.status with
      | .tune _, .live => { f with status := .replaced }
      | _, _ => f) }

/-- The Tuner sets its selection and places the command (R131). -/
def placeTune (c : TuneCmd) (s : State) : State :=
  (s.withVlink (s.vlink.place c)).withTuner { s.tuner with selection := c.selects }

/-! ## The mute request (R162) -/

/-- Sets the mute request: the lists, the queue and the latch are cleared, the card selection becomes none and every sent value
unknown (R162). -/
def VLink.requestMute (k : VLink) : VLink :=
  { k with lists := .replicate 16 [], queue := [], latch := none, cardSel := none, mute := true,
           sent := .replicate 16 (.replicate 32 none),
           line := k.line.map (fun f => { f with status := .muted }) }

/-! ## The serial memory (R106, R107) -/

namespace Memory

/-- What an unlisted address reads as (log entry 4). -/
def blank : Byte := 0xFF#8

/-- One byte. -/
def read : Memory → Nat → Byte
  | [], _ => blank
  | (b, x) :: t, a => if b = a then x else read t a

/-- One byte written; the canonical form is kept. -/
def write : Memory → Nat → Byte → Memory
  | [], a, x => if x = blank then [] else [(a, x)]
  | (b, y) :: t, a, x =>
    if a < b then (if x = blank then (b, y) :: t else (a, x) :: (b, y) :: t)
    else if a = b then (if x = blank then t else (a, x) :: t)
    else (b, y) :: write t a x

/-- A run of bytes from an address on. -/
def readRun (m : Memory) (a n : Nat) : List Byte := (List.range n).map (fun i => m.read (a + i))

/-- A run of bytes written in ascending order. -/
def writeRun (m : Memory) (a : Nat) : List Byte → Memory
  | [] => m
  | x :: xs => writeRun (m.write a x) (a + 1) xs

/-- The listed addresses rise strictly from `lo` on, lie within the memory, and no entry equals what an unlisted byte reads as. -/
def wfFrom : Nat → Memory → Bool
  | _, [] => true
  | lo, (a, x) :: t => lo ≤ a && a < 65536 && x ≠ blank && wfFrom (a + 1) t

/-- The canonical form. -/
def wf (m : Memory) : Bool := wfFrom 0 m

end Memory

/-- A read by the Store Controller: an absent memory reads FFH in every byte (R107). -/
def Store.readRun (t : Store) (a n : Nat) : List Byte :=
  if t.memFitted then t.mem.readRun a n else List.replicate n Memory.blank

/-- The 16-bit sum of bytes (R106). -/
def sum16 (bytes : List Byte) : Word := bytes.foldl (fun acc b => acc + b.setWidth 16) 0

/-! ## Timers -/

/-- A running timer loses a tick, stopping at 0 until its expiry is taken. -/
def tickTimer (t : Option Nat) : Option Nat := t.map (· - 1)

/-- Ticks of a number of milliseconds. -/
def ms (n : Nat) : Nat := n * Config.ticksPerMs

/-! ## The form of a meaning -/

/-- A meaning's outcome: the command's effect, but nothing while the RESET pin holds the part in reset (R119, R176). -/
def act (f : State → State) (s : State) : Host.Outcome State Fault Refusal := .next (if s.inReset then s else f s)

end Sys2Proof.Machine
end

