-- ==== Sys2Proof/Machine/Clock.lean ====
section
/-! DEFINITION. One tick of the 16 MHz reference clock (00_scope.md 2.8, R130): what a step does on an empty command queue (log
entry 3). Every running timer loses a tick, and the frequency counter counts while COUNTING. -/

namespace Sys2Proof.Machine

open Sys2Proof

/-- The silence timer loses a tick (R168). -/
def tickSilence : SilenceTimer → SilenceTimer
  | .running t => .running (t - 1)
  | x => x

/-- A voice's release deadline and damp timer (R34, R37). -/
def VoiceRec.tick (r : VoiceRec) : VoiceRec := { r with release := tickTimer r.release, damp := tickTimer r.damp }

/-- The Tuner's timers and its counter, which stops at its limit until the saturation is taken (R130, R131, R144). -/
def Tuner.tick (t : Tuner) : Tuner :=
  { t with
    noSignal := tickTimer t.noSignal
    settle := tickTimer t.settle
    driftTimer := tickTimer t.driftTimer
    count := if t.counter = .counting then min Config.countLimit (t.count + 1) else t.count }

/-- One tick of every block. -/
def tickAll (s : State) : State :=
  { s with
    link := { s.link with silence := tickSilence s.link.silence, idleTimer := tickTimer s.link.idleTimer }
    alloc := { s.alloc with voices := mapVec VoiceRec.tick s.alloc.voices }
    pitch := { s.pitch with glideTimer := tickTimer s.pitch.glideTimer }
    panel := { s.panel with scanTimer := tickTimer s.panel.scanTimer, roundTimer := tickTimer s.panel.roundTimer }
    store := { s.store with pageTimer := tickTimer s.store.pageTimer }
    tuner := s.tuner.tick }

/-- One tick of the reference clock; nothing runs while the RESET pin is held. -/
def tick (s : State) : State := if s.inReset then s else tickAll s

end Sys2Proof.Machine
end

