-- ==== Sys2Proof/Machine/Pitch.lean ====
section
/-! DEFINITION. The Pitch Engine: slots 0–3 of a sounding voice from its key, its owner's parameters, bend and scale, and its
calibration records (03_pitch_and_slot_values.md), and the routed slots 4–31 (R69). Division of integers by a positive
divisor rounds down (R1). -/

namespace Sys2Proof.Machine

open Sys2Proof

/-! ## Quantities from the engine parameters (R54) -/

/-- OSC coarse, PM00 and PM02 (R54). -/
def coarse (v : Int) : Int := v / 64 - 32

/-- OSC fine, PM01 and PM03 (R54). -/
def fine (v : Int) : Int := (v - 2048) / 16

/-- Cutoff base, PM04 (R54). -/
def cutoffBase (v : Int) : Int := v * 8

/-- Key tracking, PM05 (R54). -/
def keyTracking (v : Int) : Int := v / 32

/-- Glide, PM06 (R54). -/
def glideRate (v : Int) : Int := v / 32

/-- Bend range, PM07 (R54). -/
def bendRange (v : Int) : Int := v / 170

/-- Unison spread, PM08 (R54). -/
def unisonSpread (v : Int) : Int := v / 16

/-! ## From key to code (R56 to R67) -/

/-- The note pitch N (R56). -/
def notePitch (key : Int) (offset : Int) : Int := 256 * key + offset

/-- The move of one glide step toward N (R58). -/
def glideSize (g : Int) : Int := (128 - g) * (128 - g) / 16 + 1

/-- Q after one glide step toward N (R58). -/
def glideToward (g q n : Int) : Int :=
  if g = 0 then n
  else if q < n then (if n < q + glideSize g then n else q + glideSize g)
  else (if q - glideSize g < n then n else q - glideSize g)

/-- The bend offset B (R60). -/
def bendOffset (b r : Int) : Int := b * r / 32

/-- The unison offset U for index i in a group of n, spread u (R61). -/
def unisonOffset (n i u : Int) : Int :=
  if n < 2 then 0
  else signInt (2 * i - n + 1) * (absInt (2 * i - n + 1) * u / (2 * (n - 1)))

/-- A pitch before its clamp stands outside 0..32767 (R62). -/
def clampActs (x : Int) : Bool := x < 0 || 32767 < x

/-- The clamp of R62 and R63. -/
def clampPitch (x : Int) : Int := clampInt 0 32767 x

/-- The filter pitch before its clamp (R63). -/
def filterPitch (c q t : Int) : Int := c + (q - 15360) * t / 64

/-- Code i of a record. -/
def codeAt (codes : Vector Word 17) (i : Nat) : Int := (codes[i]?.getD 0).toNat

/-- The conversion of a pitch through 17 codes (R65). -/
def convert (codes : Vector Word 17) (p : Int) : Word :=
  let i := (p / 2048).toNat
  let f := p % 2048
  BitVec.ofInt 16 (codeAt codes i + ((codeAt codes (i + 1) - codeAt codes i) * f + 1024) / 2048)

/-- The codes of the nominal record (R66). -/
def nominalCodes : Vector Word 17 :=
  #v[0, 4096, 8192, 12288, 16384, 20480, 24576, 28672, 32768, 36864, 40960, 45056, 49152, 53248, 57344, 61440, 65535]

/-- The codes a record converts a filter pitch through: its own, or the nominal ones while it is VOID (R66). -/
def filterCodes (r : CalRecord) : Vector Word 17 := if r.valid then r.codes else nominalCodes

/-- The velocity level of slot 3 (R67). -/
def velocityLevel (vel a : Int) : Word := BitVec.ofInt 16 (65535 - (127 - vel) * 512 * a / 4096)

/-! ## One computation (R53) -/

/-- PMn of a part as an integer. -/
def pm (s : State) (p : PartId) (n : ParamId) : Int := (s.params.values[p][n].toNat : Int)

/-- The scale offset a part's key takes (R55, R56). -/
def scaleOffset (s : State) (p : PartId) (key : Key) : Int :=
  s.pitch.scale[12 * (s.part p).scale.val + key.val % 12]?.getD 0

/-- Q when N is formed (R57). -/
def settleQ (q target : Option Int) (n g : Int) : Int :=
  match q with
  | none => n
  | some x => if target ≠ some n ∧ g = 0 then n else x

/-- U of a voice (R61). -/
def voiceUnison (s : State) (p : PartId) (v : VoiceId) : Int :=
  if (s.part p).mode = .unison then
    unisonOffset s.pitch.unisonSize[v] (s.voice v).unisonIndex.val (unisonSpread (pm s p 8))
  else 0

/-- An oscillator pitch before its clamp (R62). -/
def oscSum (s : State) (p : PartId) (v : VoiceId) (q : Int) (c f : ParamId) : Int :=
  q + bendOffset s.router.bend[p] (bendRange (pm s p 7)) + 256 * coarse (pm s p c) + fine (pm s p f) + voiceUnison s p v

/-- A sounding voice of part `p` with key and velocity is computed: N, Q, the clamp flag and slots 0–3 change in one step
(R53, R56 to R68). -/
def computeFor (v : VoiceId) (p : PartId) (key vel : Key) (s : State) : State :=
  let n := notePitch key.val (scaleOffset s p key)
  let q := settleQ (s.voice v).q s.pitch.target[v] n (glideRate (pm s p 6))
  let a := oscSum s p v q 0 1
  let b := oscSum s p v q 2 3
  let f := filterPitch (cutoffBase (pm s p 4)) q (keyTracking (pm s p 5))
  let slots := (((s.pitch.slots[v].set 0 (convert (s.cal v .oscA).codes (clampPitch a))).set 1
      (convert (s.cal v .oscB).codes (clampPitch b))).set 2
      (convert (filterCodes (s.cal v .filter)) (clampPitch f))).set 3 (velocityLevel vel.val (pm s p 10))
  (s.modVoice v (fun r => { r with q := some q, clamp := clampActs a || clampActs b || clampActs f })).withPitch
    { s.pitch with target := s.pitch.target.set v (some n), slots := s.pitch.slots.set v slots }

/-- A computation of a voice: only while it is HELD, SUSTAINED or RELEASING (R53). -/
def computeVoice (v : VoiceId) (s : State) : State :=
  if (s.voice v).state.sounding then
    match (s.voice v).owner, (s.voice v).key, (s.voice v).vel with
    | some p, some k, some vel => computeFor v p k vel s
    | _, _, _ => s
  else s

/-- Every sounding voice of a part is computed, in voice order (R70 to R72). -/
def computePart (p : PartId) (s : State) : State := forEach (allVoices.filter (soundsFor s p)) computeVoice s

/-- One glide timer expiry for one voice (R58): a sounding voice whose Q differs from its target is stepped and recomputed. -/
def glideVoice (v : VoiceId) (s : State) : State :=
  match (s.voice v).state.sounding, (s.voice v).owner, (s.voice v).q, s.pitch.target[v] with
  | true, some p, some q, some n =>
    if q = n then s
    else computeVoice v (s.modVoice v (fun r => { r with q := some (glideToward (glideRate (pm s p 6)) q n) }))
  | _, _, _, _ => s

/-! ## Routed slots (R69) -/

/-- The value of a routed slot for a parameter value (R69). -/
def routedValue (v : Word12) : Word := BitVec.ofNat 16 (v.toNat * 16 + v.toNat / 256)

/-- The parameter routed to a slot, if any (R80). -/
def routedTo (s : State) (k : SlotId) : Option ParamId :=
  (List.finRange 48).find? (fun n => s.params.desc[n].routed = some k)

/-- The value slot `k` takes for a part (R69). -/
def slotFor (s : State) (p : PartId) (k : SlotId) : Word :=
  match routedTo s k with
  | some n => routedValue s.params.values[p][n]
  | none => 0

/-- Makes a value the current value of a slot (R150). -/
def setSlot (v : VoiceId) (k : SlotId) (x : Word) (s : State) : State :=
  s.withPitch { s.pitch with slots := s.pitch.slots.set v (s.pitch.slots[v].set k x) }

/-- Sets slot `k` of a voice from a part's values. -/
def setRouted (v : VoiceId) (p : PartId) (k : SlotId) (s : State) : State := setSlot v k (slotFor s p k) s

/-- Slots 4–31. -/
def routedSlots : List SlotId := (List.finRange 32).filter (fun k => 4 ≤ k.val)

/-- All 28 routed slots of a voice are set from a part's values (R69). -/
def setAllRouted (v : VoiceId) (p : PartId) (s : State) : State := forEach routedSlots (setRouted v p) s

/-- Slot `k` is set on every sounding voice, each from its owner's values (R69, R80). -/
def rerouteSlot (k : SlotId) (s : State) : State :=
  forEach allVoices (fun v s =>
    match (s.voice v).state.sounding, (s.voice v).owner with
    | true, some p => setRouted v p k s
    | _, _ => s) s

/-- The filter-nominal flag follows the FILTER record (R66). -/
def followFilter (v : VoiceId) (s : State) : State :=
  s.withPitch { s.pitch with filterNominal := s.pitch.filterNominal.set v (!(s.cal v .filter).valid) }

end Sys2Proof.Machine
end

