-- ==== Sys2Proof/Machine/Params.lean ====
section
/-! DEFINITION. The Parameter Memory: writes, evaluations of PICKUP controls, the DESCRIPTOR table and recall commits
(04_active_parameters_and_pickup.md). -/

namespace Sys2Proof.Machine

open Sys2Proof

/-- C00 first. -/
def allControls : List ControlId := List.finRange 96

/-- A value clamped to a descriptor's min and max (R82). -/
def Descriptor.clamp (d : Descriptor) (v : Nat) : Word12 :=
  if v < d.min.toNat then d.min else if d.max.toNat < v then d.max else BitVec.ofNat 12 v

/-- max − min + 1, as R88 uses it. -/
def Descriptor.span (d : Descriptor) : Int := d.max.toNat - d.min.toNat + 1

/-- The scaled value of a reported value (R88). -/
def scaledValue (d : Descriptor) (reported : Word12) : Int := d.min.toNat + reported.toNat * d.span / 4096

/-- The pickup tolerance of a dead-band (R88). -/
def pickupTolerance (d : Descriptor) (band : Byte) : Int := band.toNat * d.span / 4096

/-! ## The pickup table (R87 to R91) -/

/-- A control's pickup entry. -/
def pickupOf (s : State) (c : ControlId) : Option PickupEntry := s.params.pickup.find? (fun e => e.control = c)

/-- The entry an accepted change of a control is handled against (R88, R90): a JUMP control is always attached. -/
def detachedBy (s : State) (c : ControlId) : Option PickupEntry :=
  match s.panel.controls[c].takeover with
  | .pickup => pickupOf s c
  | .jump => none

/-- A control with PICKUP takeover is detached while it holds a pickup entry (R88). -/
def detached (s : State) (c : ControlId) : Bool := (detachedBy s c).isSome

/-- Removes a control's pickup entry; the later entries keep their order (R87). -/
def removePickup (c : ControlId) (s : State) : State :=
  s.withParams { s.params with pickup := s.params.pickup.filter (fun e => e.control ≠ c) }

/-- An entry is updated in place, or made at the tail, or, in a full table, not made and counted (R89). -/
def putPickup (e : PickupEntry) (s : State) : State :=
  if (pickupOf s e.control).isSome then
    s.withParams { s.params with pickup := s.params.pickup.map (fun x => if x.control = e.control then e else x) }
  else if s.params.pickup.length < Config.pickupCap then
    s.withParams { s.params with pickup := s.params.pickup ++ [e] }
  else bump .pickupOverflows s

/-- The outcome of an evaluation: scaled value against target within a tolerance (R89). -/
def evaluateAgainst (c : ControlId) (p : PartId) (n : ParamId) (scaled tol : Int) (target : Word12) (s : State) : State :=
  if absInt (scaled - target.toNat) ≤ tol then removePickup c s
  else putPickup { control := c, part := p, param := n, target := target,
                   direction := if scaled < target.toNat then .up else .down } s

/-- An evaluation of a control: none for a JUMP, unbound or unprimed one (R89). -/
def evaluate (c : ControlId) (s : State) : State :=
  match s.panel.controls[c].binding, s.panel.controls[c].takeover, s.panel.states[c].reported with
  | some (p, n), .pickup, some r =>
    evaluateAgainst c p n (scaledValue s.params.desc[n] r) (pickupTolerance s.params.desc[n] s.panel.controls[c].deadBand)
      s.params.values[p][n] s
  | _, _, _ => s

/-- The control bound to a parameter of a part, if any (R98: at most one). -/
def boundTo (s : State) (p : PartId) (n : ParamId) : Option ControlId :=
  allControls.find? (fun c => s.panel.controls[c].binding = some (p, n))

/-! ## Writes (R82, R83) -/

/-- One more write: the edit count wraps, and modified is set (R86). -/
def countEdit (p : PartId) (s : State) : State :=
  s.withParams { s.params with editCount := s.params.editCount.set p (s.params.editCount[p] + 1)
                               modified := s.params.modified.set p true }

/-- Makes a clamped value the active value (R82 step 1). -/
def storeValue (p : PartId) (n : ParamId) (v : Nat) (s : State) : State :=
  s.withParams { s.params with
    values := s.params.values.set p (s.params.values[p].set n (s.params.desc[n].clamp v)) }

/-- The routed slot of a parameter is set on the sounding voices of a part (R69). -/
def handRouted (p : PartId) (n : ParamId) (s : State) : State :=
  match s.params.desc[n].routed with
  | some k => forEach (allVoices.filter (soundsFor s p)) (fun v => setRouted v p k) s
  | none => s

/-- A written parameter is handed on (R71, R82 step 3): PM00–PM05, PM08 and PM10 recompute the part's voices; PM06, PM07 and
PM09 nothing; the others set their routed slot. -/
def handOn (p : PartId) (n : ParamId) (s : State) : State :=
  if n.val ≤ 5 ∨ n.val = 8 ∨ n.val = 10 then computePart p s
  else if n.val ≤ 10 then s
  else handRouted p n s

/-- Steps 1 to 3 of a write (R82, R83). -/
def applyWrite (p : PartId) (n : ParamId) (v : Nat) (s : State) : State :=
  handOn p n (countEdit p (storeValue p n v s))

/-- Step 4 of a write: the bound control is evaluated (R82). -/
def evaluateBound (p : PartId) (n : ParamId) (s : State) : State :=
  match boundTo s p n with
  | some c => evaluate c s
  | none => s

/-- A write by a CONTROL event, a PARAM write or merge, or a descriptor clamp (R82). -/
def writeParam (p : PartId) (n : ParamId) (v : Nat) (s : State) : State := evaluateBound p n (applyWrite p n v s)

/-- A crossing of a pickup entry's target (R90). -/
def crosses (e : PickupEntry) (scaled : Int) : Bool :=
  match e.direction with
  | .up => e.target.toNat ≤ scaled
  | .down => scaled ≤ e.target.toNat

/-- An accepted change of a bound control (R83, R90): the state, and whether the change was applied. -/
def panelChange (c : ControlId) (p : PartId) (n : ParamId) (reported : Word12) (s : State) : State × Bool :=
  let scaled := scaledValue s.params.desc[n] reported
  match detachedBy s c with
  | none => (applyWrite p n scaled.toNat s, true)
  | some e => if crosses e scaled then (applyWrite p n scaled.toNat (removePickup c s), true) else (s, false)

/-! ## Names (R77) -/

/-- A name write: the name, the edit count and the modified flag. -/
def writeName (p : PartId) (name : Vector Byte 12) (s : State) : State :=
  countEdit p (s.withParams { s.params with names := s.params.names.set p name })

/-- A name character: 20H..7EH (R77). -/
def nameCode (b : Byte) : Bool := 0x20#8 ≤ b && b ≤ 0x7E#8

/-! ## The DESCRIPTOR table (R79 to R81) -/

/-- Stores an entry's routed slot, taking the slot from any other parameter routed to it (R80). -/
def storeRouting (n : ParamId) (k : Option SlotId) (s : State) : State :=
  s.withParams { s.params with
    desc := (mapVec (fun d => if k.isSome ∧ d.routed = k then { d with routed := none } else d) s.params.desc).set n
      { s.params.desc[n] with routed := k } }

/-- A slot, where there is one, is set again on the sounding voices. -/
def rerouteSome (k : Option SlotId) (s : State) : State :=
  match k with
  | some k => rerouteSlot k s
  | none => s

/-- An entry's change of routing (R80): the slot left and the slot taken are set again. -/
def changeRouting (n : ParamId) (k : Option SlotId) (s : State) : State :=
  if s.params.desc[n].routed = k then s
  else rerouteSome k (rerouteSome s.params.desc[n].routed (storeRouting n k s))

/-- The parts whose value of PMn lies outside a range. -/
def partsOutside (n : ParamId) (d : Descriptor) (s : State) : List PartId :=
  allParts.filter (fun p => d.clamp s.params.values[p][n].toNat ≠ s.params.values[p][n])

/-- Evaluates every control bound to PMn with PICKUP, but for those of the parts given (R81 step 3). -/
def evaluateParam (n : ParamId) (done : List PartId) (s : State) : State :=
  forEach allControls (fun c s =>
    match s.panel.controls[c].binding with
    | some (p, m) => if m = n ∧ p ∉ done then evaluate c s else s
    | none => s) s

/-- An entry's change of min or max (R81): each part's value outside the new range is written clamped, part 0 first; then the
other controls bound to PMn are evaluated. -/
def changeRange (n : ParamId) (lo hi : Word12) (s : State) : State :=
  if s.params.desc[n].min = lo ∧ s.params.desc[n].max = hi then s
  else
    let d : Descriptor := { s.params.desc[n] with min := lo, max := hi }
    let out := partsOutside n d s
    evaluateParam n out
      (forEach out (fun p s => writeParam p n s.params.values[p][n].toNat s)
        (s.withParams { s.params with desc := s.params.desc.set n d }))

/-- One entry of an accepted DESCRIPTOR write (R79). -/
def writeDescriptor (n : ParamId) (d : Descriptor) (s : State) : State :=
  changeRange n d.min d.max (changeRouting n d.routed s)

/-! ## Recall commits (R85) -/

/-- A record's values, each taken as at most 4095 and clamped to its descriptor (R85 step 1). -/
def commitValues (desc : Vector Descriptor 48) (values : Vector Word 48) : Vector Word12 48 :=
  Vector.ofFn (fun n : Fin 48 => desc[n].clamp (min 4095 values[n].toNat))

/-- A record's name, each character outside 20H..7EH replaced by a space (R85 step 2). -/
def commitName (name : Vector Byte 12) : Vector Byte 12 := mapVec (fun b => if nameCode b then b else 0x20#8) name

/-- The values, name, edit count, modified flag and window of a commit (R85 steps 1 to 3). -/
def commitPatch (p : PartId) (r : Staged) (s : State) : State :=
  s.withParams { s.params with
    values := s.params.values.set p (commitValues s.params.desc r.values)
    names := s.params.names.set p (commitName r.name)
    editCount := s.params.editCount.set p (s.params.editCount[p] + 1)
    modified := s.params.modified.set p false
    window := s.params.window.set p (some r.slot) }

/-- Every control bound to a parameter of part `p` is evaluated, C00 first (R85 step 5). -/
def evaluatePart (p : PartId) (s : State) : State :=
  forEach allControls (fun c s =>
    match s.panel.controls[c].binding with
    | some (q, _) => if q = p then evaluate c s else s
    | none => s) s

/-- A recall commit (R85): the patch, then each sounding voice of the part once, then the pickup entries. -/
def recallCommit (p : PartId) (r : Staged) (s : State) : State :=
  let s1 := commitPatch p r s
  evaluatePart p (forEach (allVoices.filter (soundsFor s1 p)) (fun v s => setAllRouted v p (computeVoice v s)) s1)

end Sys2Proof.Machine
end

