-- ==== Sys2Proof/Machine/Alloc.lean ====
section
/-! DEFINITION. The Voice Allocator: allocation, damping, release, revival, groups, benching, and the voices as lent to the Tuner
(02_voice_assignment.md). The reports of R16 to the Note Router are the changes of the held-key pool made here. -/

namespace Sys2Proof.Machine

open Sys2Proof

/-! ## The held-key pool as the reports of R16 change it -/

/-- Report voiced (R16). -/
def reportVoiced (e : PoolPos) (set : VoiceSet) (s : State) : State :=
  s.modEntry e (fun x => { x with state := .voiced, voices := set })

/-- Report waiting (R16): the list position is kept. -/
def reportWaiting (e : PoolPos) (s : State) : State :=
  s.modEntry e (fun x => { x with state := .waiting, voices := 0 })

/-- An entry is removed: its position is free, and its part's list closes the gap (R13). -/
def removeEntry (e : PoolPos) (s : State) : State :=
  match s.entry e with
  | some x => (s.setEntry e none).setPartList x.part ((s.partList x.part).filter (· ≠ e))
  | none => s

/-- The entry a HELD voice sounds (R13). -/
def entryOf (s : State) (v : VoiceId) : Option PoolPos :=
  (List.finRange 32).find? (fun e =>
    match s.entry e with
    | some x => x.state = .voiced && x.voices.getLsbD v.val
    | none => false)

/-! ## The sounding entry of MONO and UNISON parts (R17) -/

/-- The sounding key of a pool position, 0 for a free one. -/
def keyAt (s : State) (e : PoolPos) : Nat :=
  match s.entry e with
  | some x => x.soundingKey.val
  | none => 0

/-- The newest entry with the best key: a later entry wins a tie (R17). -/
def bestEntry (better : Nat → Nat → Bool) (s : State) (l : List PoolPos) : Option PoolPos :=
  l.foldl (fun best e =>
    match best with
    | none => some e
    | some b => if better (keyAt s e) (keyAt s b) then some e else some b) none

/-- The sounding entry chosen by a note priority from a list (R17). -/
def chooseSounding (s : State) (pr : NotePriority) (l : List PoolPos) : Option PoolPos :=
  match pr with
  | .last => l.getLast?
  | .low => bestEntry (fun a b => a ≤ b) s l
  | .high => bestEntry (fun a b => b ≤ a) s l

/-- The sounding entry of a part. -/
def soundingEntry (s : State) (p : PartId) : Option PoolPos := chooseSounding s (s.part p).priority (s.partList p)

/-- The voices of an entry. -/
def voicesOf (s : State) (e : PoolPos) : VoiceSet :=
  match s.entry e with
  | some x => x.voices
  | none => 0

/-! ## Groups (R41) -/

/-- The wanted size of a MONO or UNISON group (R41). -/
def wantedSize (c : PartCfg) : Nat :=
  match c.mode with
  | .unison => min c.unisonCount c.maxVoices
  | _ => 1

/-- The group on entry `e`, counting the voices damping toward it (R41). -/
def groupCount (s : State) (p : PartId) (e : PoolPos) : Nat :=
  (members (voicesOf s e)).length + (dampingToward s p e).length

/-- Gives each voice of a list its index in it and the size of the group (R41). -/
def numberVoices (size : Nat) : Nat → List VoiceId → State → State
  | _, [], s => s
  | i, v :: vs, s =>
    numberVoices size (i + 1) vs
      ((s.modVoice v (fun r => { r with unisonIndex := (fin? i 8).getD 7 })).withPitch
        { s.pitch with unisonSize := s.pitch.unisonSize.set v size })

/-- The group's HELD voices are renumbered in voice order and recomputed (R41). -/
def renumber (e : PoolPos) (s : State) : State :=
  let vs := members (voicesOf s e)
  forEach vs computeVoice (numberVoices vs.length 0 vs s)

/-! ## Starting a voice (R28, R36, R40, R42) -/

/-- The voice becomes HELD for the entry of part `p`, with its key and velocity, at the tail of the gate list. -/
def holdFor (v : VoiceId) (p : PartId) (e : PoolPos) (s : State) : State :=
  match s.entry e with
  | some x =>
    (moveVoice v .held s).modVoice v (fun r =>
      { r with owner := some p, key := some x.soundingKey, vel := some x.vel, release := none, pending := .none, damp := none })
  | none => s

/-- A voice starts for an entry of a POLY part: computed, its routed slots set, GATE ON, voiced (R25, R28). -/
def startPoly (v : VoiceId) (p : PartId) (e : PoolPos) (s : State) : State :=
  reportVoiced e (voiceBit v) (issueGate v .on (setAllRouted v p (computeVoice v
    ((holdFor v p e s).modVoice v (fun r => { r with unisonIndex := 0 })))))

/-- A voice joins the group on entry `e` of a MONO or UNISON part: voiced with it, the group renumbered, GATE ON (R41, R42). -/
def joinGroup (v : VoiceId) (p : PartId) (e : PoolPos) (s : State) : State :=
  let s1 := holdFor v p e s
  issueGate v .on (setAllRouted v p (renumber e (reportVoiced e (insertVoice (voicesOf s1 e) v) s1)))

/-- A voice starts for an entry, by its part's mode. -/
def startFor (v : VoiceId) (p : PartId) (e : PoolPos) (s : State) : State :=
  match (s.part p).mode with
  | .poly => startPoly v p e s
  | _ => joinGroup v p e s

/-- A HELD voice takes an entry's key and velocity, is recomputed and gets GATE ON at the tail of the gate list: a retrigger, a
transfer, a group retrigger, a sounding change with legato off (R25, R32, R39, R43). -/
def takeKey (e : PoolPos) (v : VoiceId) (s : State) : State :=
  match s.entry e with
  | some x => computeVoice v (s.modVoice v (fun r => { r with key := some x.soundingKey, vel := some x.vel }))
  | none => s

/-- GATE ON for a HELD voice, which moves to the tail of the gate list (R23, R25). -/
def gateAgain (v : VoiceId) (s : State) : State := issueGate v .on (regate v s)

/-! ## Entering DAMPING (R33) -/

/-- The part of a pending assignment. -/
def Pending.part : Pending → Option PartId
  | .entry p _ => some p
  | _ => Option.none

/-- The voice moves into DAMPING with a pending assignment; DAMP is issued and the damp timer does not run yet (R33). The record keeps
the unison index it had until the damp end, though a voice damping toward a group holds no index (R41): log entry 22, DESIGN CHOICE. -/
def dampVoice (v : VoiceId) (pend : Pending) (s : State) : State :=
  issueGate v .damp ((moveVoice v .damping s).modVoice v (fun r =>
    { r with release := none, pending := pend, owner := pend.part, damp := none }))

/-- A damping voice loses its pending assignment (R35). -/
def cancelPending (v : VoiceId) (s : State) : State :=
  s.modVoice v (fun r => { r with pending := .none, owner := none })

/-- Every voice damping toward an entry loses its pending assignment (R35). -/
def cancelToward (p : PartId) (e : PoolPos) (s : State) : State := forEach (dampingToward s p e) cancelPending s

/-- Every pending assignment for a part is cancelled (R8 step 4, R11 step 4). -/
def cancelPart (p : PartId) (s : State) : State :=
  forEach (allVoices.filter (fun v => (s.voice v).state = .damping && (s.voice v).pending.part = some p)) cancelPending s

/-- Whether an entry that loses its voice is kept WAITING or removed. -/
def loseEntry (keep : Bool) (e : PoolPos) (s : State) : State := if keep then reportWaiting e s else removeEntry e s

/-- A HELD voice has been taken from its entry (R30): in POLY the entry waits or, where `keep` is no, is removed; a group loses the
voice and is renumbered, and waits once it has shrunk to nothing. -/
def loseVoice (v : VoiceId) (q : PartId) (x : PoolPos) (keep : Bool) (s : State) : State :=
  match (s.part q).mode with
  | .poly => loseEntry keep x s
  | _ =>
    if eraseVoice (voicesOf s x) v = 0 then reportWaiting x s
    else renumber x (reportVoiced x (eraseVoice (voicesOf s x) v) s)

/-- A voice HELD, SUSTAINED or RELEASING is damped, and the entry it was HELD for loses it; `keepIf` says, from the owner's
settings, whether a POLY entry is kept (R30, R45, R48). -/
def takeVoice (v : VoiceId) (pend : Pending) (keepIf : PartCfg → Bool) (s : State) : State :=
  match (s.voice v).state, (s.voice v).owner, entryOf s v with
  | .held, some q, some x => loseVoice v q x (keepIf (s.part q)) (dampVoice v pend s)
  | _, _, _ => dampVoice v pend s

/-! ## POLY allocation (R26 to R31) -/

/-- Step 1's voice: p's own SUSTAINED voice on the key, earliest in the gate list, else its RELEASING one, earliest in the release
list (R27). -/
def sameKeyVoice (s : State) (p : PartId) (key : Key) : Option VoiceId :=
  let ok := fun v => soundsFor s p v && (s.voice v).key = some key
  match s.alloc.gateList.find? (fun v => ok v && (s.voice v).state = .sustained) with
  | some v => some v
  | none => s.alloc.releaseList.find? (fun v => ok v && (s.voice v).state = .releasing)

/-- Step 1, same-key reuse: HELD again without a damp (R27). -/
def reuseVoice (v : VoiceId) (p : PartId) (e : PoolPos) (s : State) : State :=
  reportVoiced e (voiceBit v) (issueGate v .on (computeVoice v (holdFor v p e s)))

/-- Step 2's voice: the first of the free queue in p's pool, while p is below its max (R28). -/
def freeVoice (s : State) (p : PartId) : Option VoiceId :=
  if atMax s p then none else s.alloc.freeQueue.find? (inPool s p)

/-- Step 3's voice: the earliest RELEASING candidate (R29). -/
def releasingVoice (s : State) (p : PartId) : Option VoiceId :=
  s.alloc.releaseList.find? (fun v => if atMax s p then (s.voice v).owner = some p else inPool s p v)

/-- A voice of owner q may be stolen by p (R30). -/
def mayTake (s : State) (p : PartId) (v : VoiceId) : Bool :=
  match (s.voice v).owner with
  | some q => if atMax s p then q = p else inPool s p v && (q = p || (s.part q).level < (s.part p).level)
  | none => false

/-- The velocity of a voice, for QUIETEST. -/
def velOf (s : State) (v : VoiceId) : Nat :=
  match (s.voice v).vel with
  | some x => x.val
  | none => 0

/-- The candidate with the lowest velocity, the earliest among equals (R30). -/
def quietest (s : State) (l : List VoiceId) : Option VoiceId :=
  l.foldl (fun best v =>
    match best with
    | none => some v
    | some b => if velOf s v < velOf s b then some v else some b) none

/-- The victim among candidates in gate-on order (R30). -/
def victimOf (s : State) (pol : StealPolicy) (l : List VoiceId) : Option VoiceId :=
  match pol with
  | .oldest => l.head?
  | .quietest => quietest s l

/-- The candidates of a tier, in gate-on order (R30). -/
def tier (s : State) (p : PartId) (st : VoiceState) : List VoiceId :=
  s.alloc.gateList.filter (fun v => (s.voice v).state = st && mayTake s p v)

/-- Step 4's victim: tier B only when tier A is empty (R30). -/
def stealVictim (s : State) (p : PartId) : Option VoiceId :=
  match tier s p .sustained with
  | [] => victimOf s (s.part p).steal (tier s p .held)
  | a => victimOf s (s.part p).steal a

/-- Step 4: the victim is damped toward the entry, and STEALS counted (R30). -/
def stealVoice (v : VoiceId) (p : PartId) (e : PoolPos) (s : State) : State :=
  bump .steals (takeVoice v (.entry p e) (fun c => c.revive) s)

/-- Steps 2 to 4 for an entry; none when all fail (R28 to R30). -/
def acquireOne (p : PartId) (e : PoolPos) (s : State) : Option State :=
  match freeVoice s p with
  | some v => some (startFor v p e s)
  | none =>
    match releasingVoice s p with
    | some v => some (dampVoice v (.entry p e) s)
    | none =>
      match stealVictim s p with
      | some v => some (stealVoice v p e s)
      | none => none

/-- A dropped note: a DROP notice for the part, and NOTES DROPPED (R14, R16). -/
def dropNote (p : PartId) (s : State) : State := bump .notesDropped (offerNotice (.drop p 1) s)

/-- Allocation of a POLY part for a new entry (R26 to R31). -/
def polyAllocate (p : PartId) (e : PoolPos) (key : Key) (s : State) : State :=
  match sameKeyVoice s p key with
  | some v => reuseVoice v p e s
  | none =>
    match acquireOne p e s with
    | some s1 => s1
    | none => if (s.part p).revive then s else dropNote p (removeEntry e s)

/-! ## Release (R37, R39, R44) -/

/-- HELD or SUSTAINED to RELEASING: deadline from the owner's PM09 at this moment, GATE OFF (R37). -/
def releaseVoice (p : PartId) (v : VoiceId) (s : State) : State :=
  issueGate v .off ((moveVoice v .releasing s).modVoice v (fun r =>
    { r with release := some (ms (releaseMs s.params.values[p][(9 : ParamId)])) }))

/-- A key up that is not a transfer: RELEASING, or SUSTAINED while the owner's sustain is on (R37). -/
def keyUp (p : PartId) (v : VoiceId) (s : State) : State :=
  if s.router.sustain[p] then moveVoice v .sustained s else releaseVoice p v s

/-- The part's newest WAITING entry toward which no voice is damping (R39). -/
def waitingEntry (s : State) (p : PartId) : Option PoolPos :=
  (s.partList p).reverse.find? (fun e =>
    match s.entry e with
    | some x => x.state = .waiting && (dampingToward s p e).isEmpty
    | none => false)

/-- The voice of a released POLY entry: transferred, or its key goes up (R15, R37, R39). -/
def releaseOrTransfer (p : PartId) (v : VoiceId) (s : State) : State :=
  match s.router.sustain[p], (s.part p).revive, waitingEntry s p with
  | false, true, some w =>
    bump .revivals (reportVoiced w (voiceBit v) (gateAgain v (setAllRouted v p (takeKey w v s))))
  | _, _, _ => keyUp p v s

/-- The gated voices of a part, in gate-on order, to RELEASING (R8 step 3, R37). -/
def releaseGated (p : PartId) (sel : VoiceState → Bool) (s : State) : State :=
  forEach (s.alloc.gateList.filter (fun v => sel (s.voice v).state && (s.voice v).owner = some p)) (releaseVoice p) s

/-- A last key up of a MONO or UNISON part, for the group of the released entry `e` (R44), in gate-on order (log entry 12). -/
def lastKeyUp (p : PartId) (e : PoolPos) (group : VoiceSet) (s : State) : State :=
  cancelToward p e (forEach (s.alloc.gateList.filter (fun v => group.getLsbD v.val)) (keyUp p) s)

/-! ## MONO and UNISON groups (R42, R43) -/

/-- The part's own SUSTAINED and RELEASING voices in voice order (R42 stage 1). -/
def ownTails (s : State) (p : PartId) : List VoiceId :=
  allVoices.filter (fun v => soundsFor s p v && (s.voice v).state ≠ .held)

/-- Stage 2 of an acquisition: steps 2 to 4 until the wanted size or until they all fail (R42). The bound on the rounds is not
reached: each round adds a voice to the count or takes a HELD voice of the part (log entry 13). -/
def acquireGroup (p : PartId) (e : PoolPos) (wanted : Nat) : Nat → State → State
  | 0, s => s
  | k + 1, s =>
    if wanted ≤ groupCount s p e then s
    else
      match acquireOne p e s with
      | some s1 => acquireGroup p e wanted k s1
      | none => s

/-- A first key: the group is acquired for entry `e` (R42). -/
def firstKey (p : PartId) (e : PoolPos) (s : State) : State :=
  let wanted := wantedSize (s.part p)
  acquireGroup p e wanted 32 (forEach ((ownTails s p).take wanted) (fun v => joinGroup v p e) s)

/-- The voices damping toward one entry now damp toward another (R43). -/
def movePending (p : PartId) (old new : PoolPos) (s : State) : State :=
  forEach (dampingToward s p old) (fun v s => s.modVoice v (fun r => { r with pending := .entry p new })) s

/-- The group's voices are given GATE ON in voice order where legato is off (R43). -/
def legatoGate (p : PartId) (vs : List VoiceId) (s : State) : State :=
  if (s.part p).legato then s else forEach vs gateAgain s

/-- Reports of a sounding change: voiced for the new entry with a group, the old entry waiting if it is still there (R43). -/
def reportChange (old new : PoolPos) (group : VoiceSet) (s : State) : State :=
  let s1 := reportWaiting old s
  if group = 0 then s1 else reportVoiced new group s1

/-- A sounding change: the group of the old entry, and the voices damping toward it, move to the new one (R43). -/
def soundingChange (p : PartId) (old new : PoolPos) (group : VoiceSet) (s : State) : State :=
  legatoGate p (members group) (movePending p old new (forEach (members group) (takeKey new) (reportChange old new group s)))

/-- A group retrigger: GATE ON on every voice whatever legato says, with the new velocity (R43). R18 and R43 name no order among the
voices: they go in voice order (log entry 12, DESIGN CHOICE). -/
def groupRetrigger (e : PoolPos) (s : State) : State :=
  forEach (members (voicesOf s e)) (fun v s => gateAgain v (takeKey e v s)) s

/-! ## The revival arbiter (R40) -/

/-- A part is eligible for a freed voice (R40). -/
def eligible (s : State) (v : VoiceId) (p : PartId) : Bool :=
  (s.part p).revive && inPool s p v && !atMax s p &&
  match (s.part p).mode with
  | .poly => (waitingEntry s p).isSome
  | _ =>
    match soundingEntry s p with
    | some e => groupCount s p e < wantedSize (s.part p)
    | none => false

/-- The eligible part of highest level, the lowest number among equals (R40). -/
def revivalWinner (s : State) (v : VoiceId) : Option PartId :=
  (allParts.filter (eligible s v)).foldl (fun best p =>
    match best with
    | none => some p
    | some b => if (s.part b).level < (s.part p).level then some p else some b) none

/-- The entry a winner's voice goes to (R40). -/
def revivalEntry (s : State) (p : PartId) : Option PoolPos :=
  match (s.part p).mode with
  | .poly => waitingEntry s p
  | _ => soundingEntry s p

/-- The arbiter's one consultation for a freed voice (R40). -/
def revive (v : VoiceId) (s : State) : State :=
  match revivalWinner s v with
  | some p =>
    match revivalEntry s p with
    | some e => bump .revivals (startFor v p e s)
    | none => s
  | none => s

/-! ## TUNING and BENCHED (R45 to R49) -/

/-- The voice becomes TUNING: no owner, no pending assignment, Q no previous pitch; the bench reason is kept (R47, R48). -/
def enterTuning (v : VoiceId) (s : State) : State :=
  (moveVoice v .tuning s).modVoice v (fun r =>
    { r with owner := none, pending := .none, q := none, release := none, damp := none })

/-- The bench reason from the records (R21). -/
def setBenchReason (v : VoiceId) (s : State) : State :=
  s.modVoice v (fun r => { r with benchA := !(s.cal v .oscA).valid, benchB := !(s.cal v .oscB).valid })

/-- The voice becomes BENCHED with its bench reason (R21). -/
def enterBenched (v : VoiceId) (s : State) : State :=
  setBenchReason v ((moveVoice v .benched s).modVoice v (fun r =>
    { r with owner := none, pending := .none, release := none, damp := none }))

/-- The voice becomes IDLE at the tail of the free queue, its bench reason cleared (R21, R46). -/
def enterIdle (v : VoiceId) (s : State) : State :=
  (moveVoice v .idle s).modVoice v (fun r =>
    { r with owner := none, pending := .none, release := none, damp := none, benchA := false, benchB := false })

/-- A BENCH notice, which sets the notified condition (R45). -/
def benchNotice (v : VoiceId) (benched : Bool) (s : State) : State :=
  offerNotice (.bench v benched (benched && !(s.cal v .oscA).valid) (benched && !(s.cal v .oscB).valid))
    (s.modVoice v (fun r => { r with notified := benched }))

/-- A BENCH notice where the condition differs from the notified one (R45, R46, R49). -/
def notifyBench (v : VoiceId) (benched : Bool) (s : State) : State :=
  if (s.voice v).notified = benched then s else benchNotice v benched s

/-- The Tuner takes an offered voice: a BACKGROUND run, the voice not yet done, no voice being measured (R47, R141). -/
def tunerWants (s : State) (v : VoiceId) : Bool :=
  match s.tuner.run with
  | some r => r.mode = .background && r.notDone.getLsbD v.val && r.current.isNone
  | none => false

/-- The offered voice is claimed into TUNING and becomes the run's current voice (R47). -/
def claimOffered (v : VoiceId) (s : State) : State :=
  let s1 := enterTuning v s
  s1.withTuner { s1.tuner with run := s1.tuner.run.map (fun r => { r with current := some v }) }

/-- A voice that has become IDLE is offered to the Tuner and, if not taken, to the revival arbiter (R38, R46, R47). -/
def offerIdle (v : VoiceId) (s : State) : State := if tunerWants s v then claimOffered v s else revive v s

/-- A voice that has become BENCHED is offered to the Tuner (R47). -/
def offerBenched (v : VoiceId) (s : State) : State := if tunerWants s v then claimOffered v s else s

/-- A voice leaves DAMPING without a pending assignment, or TUNING: IDLE or BENCHED by its oscillator records, with a BENCH notice
when that differs from its notified condition, and then offered (R36, R46, R47, R49). -/
def settleVoice (v : VoiceId) (s : State) : State :=
  if s.oscValid v then offerIdle v (notifyBench v false (enterIdle v s))
  else offerBenched v (notifyBench v true (enterBenched v s))

/-- The expiry of a damp timer (R36). -/
def endDamp (v : VoiceId) (s : State) : State :=
  match (s.voice v).pending with
  | .entry p e => if (s.entry e).isSome then startFor v p e s else settleVoice v s
  | .tuner => enterTuning v s
  | .none => settleVoice v s

/-- A pending assignment to an entry is given up for another (R35, R45, R48): a POLY entry waits. -/
def replacePending (v : VoiceId) (pend : Pending) (s : State) : State :=
  let s1 := s.modVoice v (fun r => { r with pending := pend, owner := none })
  match (s.voice v).pending with
  | .entry p e => if (s.part p).mode = .poly then reportWaiting e s1 else s1
  | _ => s1

/-- An OSC record of the voice has been made VOID by a write (R45). -/
def voidVoice (v : VoiceId) (s : State) : State :=
  let s1 :=
    match (s.voice v).state with
    | .idle => offerBenched v (enterBenched v s)
    | .held | .sustained | .releasing => takeVoice v .none (fun _ => true) s
    | .damping =>
      match (s.voice v).pending with
      | .entry _ _ => replacePending v .none s
      | _ => s
    | .benched => setBenchReason v s
    | .tuning => s
  if (s.voice v).notified then s1 else benchNotice v true s1

/-- Benching and unbenching after an oscillator record of a voice that is not TUNING has been replaced by a write; `void` says
whether the new record is VOID (R45, R46, R126 step 2). -/
def benchAfterWrite (v : VoiceId) (void : Bool) (s : State) : State :=
  if (s.voice v).state = .tuning then s
  else if void then voidVoice v s
  else if (s.voice v).state = .benched then
    if s.oscValid v then offerIdle v (benchNotice v false (enterIdle v s)) else setBenchReason v s
  else s

/-- A FORCED claim of one voice (R48). -/
def forceClaim (v : VoiceId) (s : State) : State :=
  match (s.voice v).state with
  | .idle | .benched => enterTuning v s
  | .held | .sustained | .releasing => takeVoice v .tuner (fun c => c.revive) s
  | .damping => replacePending v .tuner s
  | .tuning => s

/-- A report of a DAMP frame that has left: the damp timer starts if the voice is DAMPING (R34). -/
def dampReport (v : VoiceId) (s : State) : State :=
  if (s.voice v).state = .damping then s.modVoice v (fun r => { r with damp := some (ms s.store.options.dampTime) }) else s

end Sys2Proof.Machine
end

