-- ==== Sys2Proof/Machine/Flags.lean ====
section
/-! DEFINITION. The flag bytes the part reports (R193 to R195) and the orders and counts that its tables show. -/

namespace Sys2Proof.Machine

open Sys2Proof

/-- A flag as a bit. -/
def bitOf (b : Bool) : Byte := if b then 1 else 0

/-- Bench reason: bit 0 OSC A void, bit 1 OSC B void (R193). -/
def benchBits (a b : Bool) : Byte := bitOf a ||| (bitOf b <<< 1)

/-- The flags byte of a VOICE entry: bit 0 clamp, bit 1 filter-nominal, bits 2–3 bench reason (R195). -/
def voiceFlags (s : State) (v : VoiceId) : Byte :=
  bitOf (s.voice v).clamp ||| (bitOf s.pitch.filterNominal[v] <<< 1) ||| (benchBits (s.voice v).benchA (s.voice v).benchB <<< 2)

/-- The flags byte of STATUS: bit 0 LOST, bit 1 OVERRUN (R194). -/
def statusFlags (l : Link) : Byte := bitOf l.lost ||| (bitOf l.overrun <<< 1)

/-- The place of an element in a list, 1 for the first, where it is there (R13: age; R21: gate-on order). -/
def placeIn {α : Type} [DecidableEq α] (x : α) (l : List α) : Option Nat :=
  match l with
  | [] => none
  | y :: ys => if x = y then some 1 else (placeIn x ys).map (· + 1)

/-- The set of the voices that meet a test. -/
def voiceMask (ok : VoiceId → Bool) : VoiceSet := allVoices.foldl (fun m v => if ok v then insertVoice m v else m) 0

/-- The number of voices in a state (R180). -/
def stateCount (s : State) (st : VoiceState) : Nat := (allVoices.filter (fun v => (s.voice v).state = st)).length

end Sys2Proof.Machine
end

