-- ==== Sys2Proof/Machine/Operands.lean ====
section
/-! DEFINITION. Bytes: Event Link frames and the receiver's judgement of them (R164, R165, R194), the codes of R193, the table
entries of R195, the records and blocks of R196, and the Voice Link frame of R197. -/

namespace Sys2Proof.Machine

open Sys2Proof

/-! ## Event Link frames (R164, R194) -/

/-- The 8-bit sum, carries dropped. -/
def sum8 (bytes : List Byte) : Byte := bytes.foldl (fun acc b => acc + b) 0

/-- The bytes of a frame: kind, length, payload and the check that makes the sum 0 (R164). -/
def frameBytes (f : Frame) : List Byte :=
  let body := f.kind :: BitVec.ofNat 8 f.payload.length :: f.payload
  body ++ [0 - sum8 body]

/-- A frame as it is received without framing errors. -/
def rxBytes (f : Frame) : List RxByte := (frameBytes f).map (fun b => ⟨b, false⟩)

/-- What the receiver finds at the start of a run of bytes (R164, R166): not yet a whole frame; a good frame and its length; a bad
one and its length. -/
inductive Judgement where
  | incomplete
  | good (f : Frame) (length : Nat)
  | bad (length : Nat)
  deriving DecidableEq, Repr

/-- The judgement of a frame whose L + 3 bytes have all arrived. -/
def judgeWhole (frame : List RxByte) : Judgement :=
  if sum8 (frame.map (·.val)) = 0 ∧ frame.all (fun b => !b.framingError) then
    match frame with
    | k :: _ :: rest => .good ⟨k.val, (rest.dropLast).map (·.val)⟩ frame.length
    | _ => .incomplete
  else .bad frame.length

/-- The frame read from the first byte on (R164): bad at a length byte above 40 or with a framing error in it, otherwise judged at
its check byte (R166), in HUNT too, a framing error in the kind byte included (log entry 16, DESIGN CHOICE). -/
def judge (bytes : List RxByte) : Judgement :=
  match bytes with
  | _ :: l :: _ =>
    if Config.maxPayload < l.val.toNat ∨ l.framingError then .bad 2
    else if bytes.length < l.val.toNat + 3 then .incomplete
    else judgeWhole (bytes.take (l.val.toNat + 3))
  | _ => .incomplete

/-- The hunt (R165): a bad start is rejected and the next byte is the new start. The bytes after a good frame, or else the bytes
still held. -/
def hunt : List RxByte → Option (List RxByte) × List RxByte
  | [] => (none, [])
  | b :: bs =>
    match judge (b :: bs) with
    | .good _ n => (some ((b :: bs).drop n), [])
    | .bad _ => hunt bs
    | .incomplete => (none, b :: bs)

/-- The payload length an event's kind requires (R194). -/
def eventLength (kind : Byte) : Option Nat :=
  match kind.toNat with
  | 0x10 => some 3 | 0x11 => some 2 | 0x12 => some 2 | 0x13 => some 3
  | 0x14 => some 3 | 0x15 => some 3 | 0x16 => some 1 | 0x17 => some 2
  | _ => none

/-- The kind codes of the requests (R194). -/
def isRequestKind (kind : Byte) : Bool := 0x20#8 ≤ kind && kind ≤ 0x2D#8

/-- A good frame that is ignored (R167): any code that is no event and no request; an event of a wrong payload length. The IDLE
frame proper, with no payload, is a command of its own. -/
def ignorable (f : Frame) : Bool :=
  match eventLength f.kind with
  | some n => f.payload.length ≠ n
  | none => !(isRequestKind f.kind) && f ≠ ⟨0, []⟩

/-- The requests (R194). -/
inductive ReqKind where
  | status | tableRead | tableWrite | tableMerge | patchRecall | patchStore | setupSave | calSave
  | tuneStart | tuneAbort | barrierApplied | barrierDelivered | counterSnapshot | reset
  deriving DecidableEq, Repr

/-- The request's kind code (R194). -/
def ReqKind.code : ReqKind → Byte
  | .status => 0x20#8 | .tableRead => 0x21#8 | .tableWrite => 0x22#8 | .tableMerge => 0x23#8
  | .patchRecall => 0x24#8 | .patchStore => 0x25#8 | .setupSave => 0x26#8 | .calSave => 0x27#8
  | .tuneStart => 0x28#8 | .tuneAbort => 0x29#8 | .barrierApplied => 0x2A#8 | .barrierDelivered => 0x2B#8
  | .counterSnapshot => 0x2C#8 | .reset => 0x2D#8

/-- The payload lengths a request's kind allows (R192, R194). A TABLE WRITE without entry data (L = 3) is of a wrong length, and so
UNKNOWN before R183 could call it RANGE (log entry 23, DESIGN CHOICE). -/
def ReqKind.lengthOk (k : ReqKind) (n : Nat) : Bool :=
  match k with
  | .status | .setupSave | .calSave | .tuneAbort | .barrierApplied | .barrierDelivered => n ≤ 1
  | .tableRead | .patchRecall => n = 4
  | .tableWrite => 4 ≤ n && n ≤ 40
  | .tableMerge => n = 8
  | .patchStore => n = 3
  | .tuneStart => n = 5
  | .counterSnapshot | .reset => n = 2

/-! ## Codes (R193) -/

def boolCode (b : Bool) : Byte := if b then 1 else 0

def PartMode.code : PartMode → Byte
  | .poly => 0 | .mono => 1 | .unison => 2
def NotePriority.code : NotePriority → Byte
  | .last => 0 | .low => 1 | .high => 2
def StealPolicy.code : StealPolicy → Byte
  | .oldest => 0 | .quietest => 1
def Timing.code : Timing → Byte
  | .now => 0 | .nextNote => 1
def VoiceState.code : VoiceState → Byte
  | .idle => 0 | .held => 1 | .sustained => 2 | .releasing => 3 | .damping => 4 | .tuning => 5 | .benched => 6
def EntryState.code : EntryState → Byte
  | .waiting => 1 | .voiced => 2
def ControlType.code : ControlType → Byte
  | .knob => 0 | .switch => 1
def Takeover.code : Takeover → Byte
  | .jump => 0 | .pickup => 1
def Direction.code : Direction → Byte
  | .up => 0 | .down => 1
def LastResult.code : LastResult → Byte
  | .never => 0 | .pass => 1 | .noSignal => 2 | .outOfRange => 3 | .tolerance => 4 | .notMonotonic => 5 | .aborted => 6
def Source.code : Source → Byte
  | .oscA => 0 | .oscB => 1 | .filter => 2
def TuneAtStart.code : TuneAtStart → Byte
  | .none => 0 | .voidOnly => 1 | .all => 2
def RunOrigin.code : RunOrigin → Byte
  | .host => 0 | .drift => 1 | .startUp => 2
def RunMode.code : RunMode → Byte
  | .forced => 0 | .background => 1
def ResultCode.code : ResultCode → Byte
  | .ok => 0 | .accepted => 1 | .unknown => 2 | .range => 3 | .readOnly => 4 | .busy => 5 | .state => 6
def RxState.code : RxState → Byte
  | .hunt => 0 | .candidate => 1 | .locked => 2
def Phase.code : Phase → Byte
  | .setup => 0 | .cal => 1 | .ready => 2
def StoreKind.code : StoreKind → Byte
  | .patch => 0 | .setup => 1 | .cal => 2
def SetupResult.code : SetupResult → Byte
  | .loaded => 0 | .defaults => 1
def CalResult.code : CalResult → Byte
  | .loaded => 0 | .none => 1 | .fault => 2

def bool? (b : Byte) : Option Bool :=
  match b.toNat with
  | 0 => some false | 1 => some true | _ => none
def mode? (b : Byte) : Option PartMode :=
  match b.toNat with
  | 0 => some .poly | 1 => some .mono | 2 => some .unison | _ => none
def priority? (b : Byte) : Option NotePriority :=
  match b.toNat with
  | 0 => some .last | 1 => some .low | 2 => some .high | _ => none
def steal? (b : Byte) : Option StealPolicy :=
  match b.toNat with
  | 0 => some .oldest | 1 => some .quietest | _ => none
def timing? (b : Byte) : Option Timing :=
  match b.toNat with
  | 0 => some .now | 1 => some .nextNote | _ => none
def type? (b : Byte) : Option ControlType :=
  match b.toNat with
  | 0 => some .knob | 1 => some .switch | _ => none
def takeover? (b : Byte) : Option Takeover :=
  match b.toNat with
  | 0 => some .jump | 1 => some .pickup | _ => none
def lastResult? (b : Byte) : Option LastResult :=
  match b.toNat with
  | 0 => some .never | 1 => some .pass | 2 => some .noSignal | 3 => some .outOfRange
  | 4 => some .tolerance | 5 => some .notMonotonic | 6 => some .aborted | _ => none
def tuneAtStart? (b : Byte) : Option TuneAtStart :=
  match b.toNat with
  | 0 => some .none | 1 => some .voidOnly | 2 => some .all | _ => none
def runMode? (b : Byte) : Option RunMode :=
  match b.toNat with
  | 0 => some .forced | 1 => some .background | _ => none

/-- "None" in a one-byte field is FFH (R192). -/
def optByte {n : Nat} (x : Option (Fin n)) : Byte :=
  match x with
  | some i => BitVec.ofNat 8 i.val
  | none => 0xFF#8

def natByte (n : Nat) : Byte := BitVec.ofNat 8 n

/-- A quantity of three bytes, high byte first (R192). -/
def bytes3 (n : Nat) : List Byte := [natByte (n / 65536), natByte (n / 256), natByte n]

/-- A signed quantity in two bytes (R192). -/
def intBytes (x : Int) : List Byte := bytesOfWord (BitVec.ofInt 16 x)

/-- A patch slot in two bytes, or 0100H (R195: INIT, none). -/
def slotBytes (x : Option Byte) : List Byte :=
  match x with
  | some b => [0, b]
  | none => [1, 0]

/-- A patch slot in two bytes, or none at 0100H; out of range otherwise (R118, R195). -/
def slot? (hi lo : Byte) : Option (Option Byte) :=
  if hi = 0 then some (some lo) else if hi = 1 ∧ lo = 0 then some none else none

/-- `ok` as a check of a decoded field. -/
def guardThat (ok : Bool) : Option Unit := if ok then some () else none

/-! ## Table entries: bytes from entries (R195) -/

def zoneBytes (z : Zone) : List Byte :=
  [boolCode z.enabled, natByte z.channel, natByte z.keyLow, natByte z.keyHigh, natByte z.velLow, natByte z.velHigh,
   natByte z.part, BitVec.ofInt 8 z.transpose]

def partBytes (c : PartCfg) : List Byte :=
  [c.mode.code, natByte c.unisonCount, c.priority.code, boolCode c.legato] ++ bytesOfWord c.pool ++
  [natByte c.maxVoices, natByte c.level, c.steal.code, boolCode c.revive, natByte c.scale, c.select.code]

def partStateBytes (s : State) (p : PartId) : List Byte :=
  [boolCode s.router.sustain[p], boolCode s.params.modified[p]] ++ intBytes s.router.bend[p] ++ slotBytes s.params.window[p] ++
  slotBytes (s.store.staging[p].map (·.slot)) ++ bytesOfWord s.params.editCount[p] ++ [natByte (ownedCount s p), 0]

def heldBytes (s : State) (e : PoolPos) : List Byte :=
  match s.entry e with
  | some x =>
    [x.state.code, natByte x.part, natByte x.channel, natByte x.sourceKey, natByte x.soundingKey, natByte x.vel] ++
    bytesOfWord x.voices ++ [natByte ((placeIn e (s.partList x.part)).getD 0), 0]
  | none => List.replicate 10 0

/-- Pending kind, part and entry of a VOICE entry (R195). -/
def pendingBytes : Pending → List Byte
  | .none => [0, 0xFF, 0xFF]
  | .entry p e => [1, natByte p, natByte e]
  | .tuner => [2, 0xFF, 0xFF]

def voiceBytes (s : State) (v : VoiceId) : List Byte :=
  let r := s.voice v
  [r.state.code, optByte r.owner, optByte r.key, optByte r.vel] ++ pendingBytes r.pending ++ [natByte r.unisonIndex] ++
  (match r.release with
   | some t => bytesOfWord (BitVec.ofNat 16 (t / Config.ticksPerMs))
   | none => [0xFF, 0xFF]) ++
  (match r.q with
   | some q => intBytes q
   | none => [0x80, 0x00]) ++
  [voiceFlags s v, (match placeIn v s.alloc.gateList with
    | some n => natByte n
    | none => 0xFF)]

def descriptorBytes (d : Descriptor) : List Byte :=
  bytesOfWord (d.min.setWidth 16) ++ bytesOfWord (d.max.setWidth 16) ++ [optByte d.routed, 0]

def pickupBytes (e : Option PickupEntry) : List Byte :=
  match e with
  | some e => [natByte e.control, natByte e.part, natByte e.param, e.direction.code] ++ bytesOfWord (e.target.setWidth 16)
  | none => [0xFF, 0xFF, 0xFF, 0xFF, 0xFF, 0xFF]

def controlBytes (c : ControlCfg) : List Byte :=
  [c.type.code, c.deadBand, natByte c.persistence, optByte (c.binding.map (·.1)), optByte (c.binding.map (·.2)),
   c.takeover.code, boolCode c.report, 0]

def controlStateBytes (c : ControlState) : List Byte :=
  [boolCode c.reported.isSome, natByte c.runCount] ++
  (match c.reported with
   | some r => bytesOfWord (r.setWidth 16)
   | none => [0xFF, 0xFF])

def optionsBytes (o : SetupOptions) : List Byte :=
  [natByte o.dampTime, natByte o.scanPeriod, boolCode o.panelReport, boolCode o.loadCal, o.tuneAtStart.code, 0] ++
  o.startRecall.toList.flatMap slotBytes

def calBytes (r : CalRecord) : List Byte := [boolCode r.valid, r.last.code] ++ r.codes.toList.flatMap bytesOfWord

def targetBytes (t : Target) : List Byte := natByte t.w :: bytes3 t.t

def tuneConfigBytes (c : TuneConfig) : List Byte :=
  [natByte c.settle, natByte c.tolShift] ++ bytesOfWord (BitVec.ofNat 16 c.s0) ++
  [natByte c.firstBp, natByte c.lastBp, natByte c.timeout, natByte c.driftPeriod, natByte c.driftShift, natByte c.confirm,
   boolCode c.autoRetune, 0]

/-! ## Table entries: entries from bytes, with the owners' checks -/

/-- R2. -/
def zone? : List Byte → Option Zone
  | [en, ch, kl, kh, vl, vh, pt, tr] => do
    let enabled ← bool? en
    let channel ← fin? ch.toNat 16
    let keyLow ← fin? kl.toNat 128
    let keyHigh ← fin? kh.toNat 128
    let velLow ← fin? vl.toNat 128
    let velHigh ← fin? vh.toNat 128
    let part ← fin? pt.toNat 4
    guardThat (keyLow ≤ keyHigh && 1 ≤ velLow.val && velLow ≤ velHigh && -48 ≤ tr.toInt && tr.toInt ≤ 48)
    some { enabled, channel, keyLow, keyHigh, velLow, velHigh, part, transpose := tr.toInt }
  | _ => none

/-- R10. -/
def part? : List Byte → Option PartCfg
  | [m, n, pr, lg, ph, pl, mx, lv, st, rv, sc, se] => do
    let mode ← mode? m
    let priority ← priority? pr
    let legato ← bool? lg
    let steal ← steal? st
    let revive ← bool? rv
    let scale ← fin? sc.toNat 4
    let select ← timing? se
    guardThat (2 ≤ n.toNat && n.toNat ≤ 8 && wordOfBytes ph pl ≠ 0 && 1 ≤ mx.toNat && mx.toNat ≤ 16 && 1 ≤ lv.toNat && lv.toNat ≤ 8)
    some { mode, unisonCount := n.toNat, priority, legato, pool := wordOfBytes ph pl, maxVoices := mx.toNat,
           level := lv.toNat, steal, revive, scale, select }
  | _ => none

/-- A SCALE offset: a signed 16-bit number, clamped (R55, R192). -/
def scale? : List Byte → Option Int
  | [hi, lo] => some (clampInt (-128) 127 (wordOfBytes hi lo).toInt)
  | _ => none

/-- A PARAM value, at most 4095 (R84, R192). -/
def param? : List Byte → Option Nat
  | [hi, lo] => some (min 4095 (wordOfBytes hi lo).toNat)
  | _ => none

/-- R77. -/
def name? (bytes : List Byte) : Option (Vector Byte 12) := do
  guardThat (bytes.all nameCode)
  toVector? 12 bytes

/-- A routed slot: none, or 4..31, and none for PM00–PM10 (R79). -/
def routed? (n : Nat) (b : Byte) : Option (Option SlotId) :=
  if b = 0xFF#8 then some none
  else if 4 ≤ b.toNat ∧ 11 ≤ n then (fin? b.toNat 32).map some
  else none

/-- R79, for entry n. -/
def descriptor? (n : Nat) : List Byte → Option Descriptor
  | [a, b, c, d, r, _] => do
    let routed ← routed? n r
    guardThat ((wordOfBytes a b).toNat ≤ 4095 && (wordOfBytes c d).toNat ≤ 4095 && (wordOfBytes a b) ≤ (wordOfBytes c d))
    some { min := (wordOfBytes a b).setWidth 12, max := (wordOfBytes c d).setWidth 12, routed }
  | _ => none

/-- R94. -/
def scanEntry? : List Byte → Option (Option ControlId)
  | [c, _] => if c = 0xFF#8 then some none else (fin? c.toNat 96).map some
  | _ => none

/-- A binding: a binding part of FFH is none, whatever the parameter byte (R195). -/
def binding? (p n : Byte) : Option (Option (PartId × ParamId)) :=
  if p = 0xFF#8 then some none
  else do
    let p ← fin? p.toNat 4
    let n ← fin? n.toNat 48
    some (some (p, n))

/-- R95. -/
def control? : List Byte → Option ControlCfg
  | [ty, band, pc, bp, bn, tk, rep, _] => do
    let type ← type? ty
    let persistence ← fin? pc.toNat 8
    let binding ← binding? bp bn
    let takeover ← takeover? tk
    let report ← bool? rep
    some { type, deadBand := band, persistence, binding, takeover, report }
  | _ => none

/-- R118. -/
def options? : List Byte → Option SetupOptions
  | [dt, sp, pr, lc, ta, _, a0, a1, b0, b1, c0, c1, d0, d1] => do
    let panelReport ← bool? pr
    let loadCal ← bool? lc
    let tuneAtStart ← tuneAtStart? ta
    let r0 ← slot? a0 a1
    let r1 ← slot? b0 b1
    let r2 ← slot? c0 c1
    let r3 ← slot? d0 d1
    guardThat (1 ≤ dt.toNat && dt.toNat ≤ 15 && 2 ≤ sp.toNat && sp.toNat ≤ 20)
    some { dampTime := dt.toNat, scanPeriod := sp.toNat, panelReport, startRecall := #v[r0, r1, r2, r3], loadCal, tuneAtStart }
  | _ => none

/-- Two bytes at a time, high byte first. -/
def wordsOf : List Byte → List Word
  | a :: b :: rest => wordOfBytes a b :: wordsOf rest
  | _ => []

/-- No code is lower than the code before it (R125). -/
def nonDecreasing : List Word → Bool
  | a :: b :: rest => a ≤ b && nonDecreasing (b :: rest)
  | _ => true

/-- The record of a CALIBRATION write (R127, structure). -/
def cal? : List Byte → Option CalRecord
  | st :: lr :: rest => do
    let valid ← bool? st
    let last ← lastResult? lr
    let codes ← toVector? 17 (wordsOf rest)
    guardThat (!valid || nonDecreasing codes.toList)
    some { valid, last, codes }
  | _ => none

/-- The record of a calibration block (R121, R192): never refused but for its length. -/
def calLoaded? : List Byte → Option CalRecord
  | st :: lr :: rest => do
    let codes ← toVector? 17 (wordsOf rest)
    match bool? st, lastResult? lr with
    | some valid, some last => some { valid := valid && nonDecreasing codes.toList, last, codes }
    | _, _ => some { valid := false, last := .never, codes }
  | _ => none

/-- R128. -/
def target? : List Byte → Option Target
  | [w, a, b, c] => do
    let t := a.toNat * 65536 + b.toNat * 256 + c.toNat
    guardThat (1 ≤ w.toNat && 1 ≤ t && t ≤ 16777214)
    some ⟨w.toNat, t⟩
  | _ => none

/-- R129. -/
def tuneConfig? : List Byte → Option TuneConfig
  | [se, ts, sh, sl, fb, lb, tmo, dp, ds, cf, ar, _] => do
    let autoRetune ← bool? ar
    let s0 := (wordOfBytes sh sl).toNat
    guardThat (1 ≤ se.toNat && se.toNat ≤ 20 && 8 ≤ ts.toNat && ts.toNat ≤ 12 && [64, 128, 256, 512, 1024, 2048, 4096].contains s0)
    guardThat (fb.toNat < lb.toNat && lb.toNat ≤ 16 && 10 ≤ tmo.toNat && tmo.toNat ≤ 200 && dp.toNat ≤ 60 &&
      6 ≤ ds.toNat && ds.toNat ≤ 10 && 1 ≤ cf.toNat && cf.toNat ≤ 4)
    some { settle := se.toNat, s0, tolShift := ts.toNat, firstBp := fb.toNat, lastBp := lb.toNat, timeout := tmo.toNat,
           driftPeriod := dp.toNat, driftShift := ds.toNat, confirm := cf.toNat, autoRetune }
  | _ => none

/-! ## Runs of entries -/

/-- The first `k` groups of `size` bytes. -/
def chunks (size : Nat) : Nat → List Byte → List (List Byte)
  | 0, _ => []
  | k + 1, l => l.take size :: chunks size k (l.drop size)

/-- Every group decoded, entry `i` the first; none if one fails. -/
def decodeAll {α : Type} (dec : Nat → List Byte → Option α) : Nat → List (List Byte) → Option (List α)
  | _, [] => some []
  | i, c :: cs => do
    let x ← dec i c
    let xs ← decodeAll dec (i + 1) cs
    some (x :: xs)

/-- The entries of a run of data (R183). -/
def decodeRun {α : Type} (dec : Nat → List Byte → Option α) (size first : Nat) (data : List Byte) : Option (List α) :=
  decodeAll dec first (chunks size (data.length / size) data)

/-- No element twice. -/
def distinct {α : Type} [DecidableEq α] : List α → Bool
  | [] => true
  | x :: xs => x ∉ xs && distinct xs

/-- The run with the check on it as a whole (R79, R94, R95: no slot, control or binding named twice). -/
def checkedRun {α β : Type} [DecidableEq β] (key : α → Option β) (xs : Option (List α)) : Option (List α) := do
  let l ← xs
  guardThat (distinct (l.filterMap key))
  some l

def descriptorRun (first : Nat) (data : List Byte) : Option (List Descriptor) :=
  checkedRun Descriptor.routed (decodeRun descriptor? 6 first data)

def scanMapRun (first : Nat) (data : List Byte) : Option (List (Option ControlId)) :=
  checkedRun id (decodeRun (fun _ => scanEntry?) 2 first data)

def controlRun (first : Nat) (data : List Byte) : Option (List ControlCfg) :=
  checkedRun ControlCfg.binding (decodeRun (fun _ => control?) 8 first data)

/-! ## Records and blocks (R106, R196) -/

/-- A run of bytes followed by its 16-bit check. -/
def withCheck (bytes : List Byte) : List Byte := bytes ++ bytesOfWord (sum16 bytes)

/-- The check of a record or block matches (R106). -/
def checkMatches (bytes : List Byte) : Bool :=
  bytesOfWord (sum16 (bytes.take (bytes.length - 2))) = bytes.drop (bytes.length - 2)

/-- Zero bytes up to a length. -/
def padTo (n : Nat) (bytes : List Byte) : List Byte := bytes ++ List.replicate (n - bytes.length) 0

/-- The patch record (R106, R196). -/
def patchBytes (name : Vector Byte 12) (values : Vector Word12 48) : List Byte :=
  withCheck (padTo 126 ([0x5A#8, 0x01#8] ++ name.toList ++ values.toList.flatMap (fun v => bytesOfWord (v.setWidth 16))))

/-- The setup block (R196). -/
def setupBytes (t : SetupTables) : List Byte :=
  withCheck (padTo 2046 ([0x5C#8, 0x01#8] ++ t.zones.toList.flatMap zoneBytes ++ t.parts.toList.flatMap partBytes ++
    t.desc.toList.flatMap descriptorBytes ++ t.scale.toList.flatMap intBytes ++ t.target.toList.flatMap targetBytes ++
    tuneConfigBytes t.cfg ++ t.scanMap.toList.flatMap (fun c => [optByte c, 0]) ++ t.controls.toList.flatMap controlBytes ++
    optionsBytes t.options))

/-- The calibration block (R196). -/
def calBlockBytes (records : Vector CalRecord 48) : List Byte :=
  withCheck (padTo 2046 ([0x5D#8, 0x01#8] ++ records.toList.flatMap calBytes))

/-- Bytes `off` to `off + len − 1`. -/
def slice (off len : Nat) (bytes : List Byte) : List Byte := (bytes.drop off).take len

/-- Marker and format of a block, and its check (R106, R120, R121). -/
def blockGood (marker : Byte) (bytes : List Byte) : Bool :=
  slice 0 2 bytes = [marker, 0x01#8] && checkMatches bytes

/-- The name and values of a patch record, the values as read (R112). -/
def staged? (slot : Byte) (bytes : List Byte) : Option Staged := do
  let name ← toVector? 12 (slice 2 12 bytes)
  let values ← toVector? 48 (wordsOf (slice 14 96 bytes))
  some { slot, name, values }

/-- One table of the setup block, decoded whole (R120). -/
def table? {α : Type} (n : Nat) (xs : Option (List α)) : Option (Vector α n) := xs.bind (toVector? n)

/-! ## The Voice Link frame (R197) -/

/-- The four bytes of a Voice Link frame. -/
def VlFrame.bytes : VlFrame → List Byte
  | .slotWrite v k x => [natByte v, natByte k] ++ bytesOfWord x
  | .gate v .on => [0x10#8 ||| natByte v, 0, 0, 0]
  | .gate v .off => [0x20#8 ||| natByte v, 0, 0, 0]
  | .gate v .damp => [0x30#8 ||| natByte v, 0, 0, 0]
  | .tune (.select v src) => [0x40#8 ||| natByte v, src.code, 0, 0]
  | .tune .release => [0x50#8, 0, 0, 0]
  | .allMute => [0x60#8, 0, 0, 0]

/-! ## Outbound frames (R194) -/

/-- A response's frame: the request's code plus 80H; tag, result code, data. -/
def Response.frame (r : Response) : Frame := ⟨r.kind + 0x80#8, r.tag :: r.result.code :: r.data⟩

/-- A notice's frame. -/
def Notice.frame : Notice → Frame
  | .controlChange c x d => ⟨0x40#8, [natByte c] ++ bytesOfWord (x.setWidth 16) ++ [boolCode d]⟩
  | .recallDone p slot c => ⟨0x41#8, [natByte p, slot, boolCode c]⟩
  | .recallFault p slot c => ⟨0x42#8, [natByte p, slot, boolCode c]⟩
  | .storeDone k p slot => ⟨0x43#8, [k.code, optByte p, slot.getD 0xFF#8]⟩
  | .storeFault k p slot => ⟨0x44#8, [k.code, optByte p, slot.getD 0xFF#8, 0]⟩
  | .voiceTuned v a b f => ⟨0x45#8, [natByte v, a.code, b.code, f.code]⟩
  | .tuneDone o p f a => ⟨0x46#8, [o.code, natByte p, natByte f, boolCode a]⟩
  | .drift v bp e => ⟨0x47#8, [natByte v, natByte bp] ++ bytes3 e⟩
  | .bench v b x y => ⟨0x48#8, [natByte v, boolCode b, benchBits x y]⟩
  | .drop p n => ⟨0x49#8, [natByte p, natByte n]⟩
  | .overrun n => ⟨0x4A#8, [natByte n]⟩
  | .link n => ⟨0x4B#8, [natByte n]⟩
  | .silence => ⟨0x4C#8, []⟩
  | .startDone r t c => ⟨0x4D#8, [r.code] ++ bytes3 t.toNat ++ [c.code]⟩

/-- The bytes of the frame on EVOUT. -/
def OutFrame.bytes : OutFrame → List Byte
  | .response r => frameBytes r.frame
  | .notice n => frameBytes n.frame
  | .idle => frameBytes ⟨0, []⟩

end Sys2Proof.Machine
end

