-- ==== Sys2Proof/Machine/Store.lean ====
section
/-! DEFINITION. The Store Controller: the store queue, recalls and their commits, page writes, and the meanings of the store
commands (06_patch_store_and_recall.md). The loads of start-up are in Machine/Startup.lean. -/

namespace Sys2Proof.Machine

open Sys2Proof

/-! ## The store queue (R108 to R110) -/

/-- The entry is a RECALL READ of the part. -/
def StoreEntry.recalls (p : PartId) (e : StoreEntry) : Bool :=
  match e.op with
  | .recallRead q _ _ => q = p
  | _ => false

/-- A RECALL READ of the part waits behind the head (R108). -/
def recallWaits (s : State) (p : PartId) : Bool := s.store.queue.tail.any (StoreEntry.recalls p)

/-- The waiting RECALL READ of the part takes a new patch slot and timing in place (R109 case 1). -/
def coalesce (p : PartId) (slot : Byte) (timing : Timing) (q : List StoreEntry) : List StoreEntry :=
  match q with
  | [] => []
  | h :: t => h :: t.map (fun e => if e.recalls p then { e with op := .recallRead p slot timing } else e)

/-- The queue has room (R109). -/
def storeRoom (s : State) : Bool := s.store.queue.length < Config.storeCap

/-- An operation joins the tail. -/
def joinStore (op : StoreOp) (marked : Bool) (s : State) : State :=
  s.withStore { s.store with queue := s.store.queue ++ [⟨op, marked⟩] }

/-- Sets a part's pending select. -/
def setSelect (p : PartId) (x : Option PendingSelect) (s : State) : State :=
  s.withStore { s.store with selects := s.store.selects.set p x }

/-- A pending select is placed as a RECALL READ while there is room; a mark goes with it (R110, R187). -/
def placeSelect (p : PartId) (s : State) : State :=
  match s.store.selects[p], storeRoom s with
  | some x, true => joinStore (.recallRead p x.slot x.timing) x.marked (setSelect p none s)
  | _, _ => s

/-- The pending selects are placed, the lowest-numbered part first, for as long as room remains (R110). -/
def placeSelects (s : State) : State := forEach allParts placeSelect s

/-- A recall is placed by coalescing or at the tail; none when the queue is full (R109 cases 1 to 3). Selects that already have
room go first (R110, log entry 9). -/
def placeRecall (p : PartId) (slot : Byte) (timing : Timing) (s : State) : Option State :=
  let s1 := placeSelects s
  if recallWaits s1 p then some (s1.withStore { s1.store with queue := coalesce p slot timing s1.store.queue })
  else if storeRoom s1 then some (joinStore (.recallRead p slot timing) false s1)
  else none

/-- A recall raised by a PATCH SELECT: on a full queue it becomes the part's pending select, keeping a mark held there (R110, R187). -/
def selectRecall (p : PartId) (slot : Byte) (timing : Timing) (s : State) : State :=
  match placeRecall p slot timing s with
  | some s1 => s1
  | none =>
    let s1 := placeSelects s
    setSelect p (some { slot, timing, marked := match s1.store.selects[p] with
      | some x => x.marked
      | none => false }) s1

/-- An operation that never coalesces: at the tail, or none when the queue is full (R109). -/
def placeStore (op : StoreOp) (s : State) : Option State :=
  let s1 := placeSelects s
  if storeRoom s1 then some (joinStore op false s1) else none

/-- The operation at the head completes and leaves (R108). -/
def leaveStore (s : State) : State :=
  s.withStore { s.store with queue := s.store.queue.tail, port := .idle, pageTimer := none }

/-- The operation at the head. -/
def headOp (s : State) : Option StoreOp := s.store.queue.head?.map (·.op)

/-! ## Commits (R113) -/

/-- Sets a part's staging buffer (R112). -/
def setStaging (p : PartId) (x : Option Staged) (s : State) : State :=
  s.withStore { s.store with staging := s.store.staging.set p x }

/-- The staged record of a part, if any, is committed: applied, the buffer emptied, RECALL DONE offered (R113). -/
def commitStaged (p : PartId) (s : State) : State :=
  match s.store.staging[p] with
  | some r => offerNotice (.recallDone p r.slot true) (setStaging p none (recallCommit p r s))
  | none => s

/-! ## Reads (R107, R111) -/

/-- The address of a patch slot (R106). -/
def slotAddress (slot : Byte) : Nat := 0x1000 + 128 * slot.toNat

/-- How a patch record is judged (R111): BLANK, CHECK or good. -/
inductive RecordJudgement where
  | blank | check | good
  deriving DecidableEq, Repr

def judgeRecord (bytes : List Byte) : RecordJudgement :=
  if bytes.head? ≠ some 0x5A#8 then .blank
  else if blockGood 0x5A#8 bytes then .good
  else .check

/-- A faulted recall (R111). -/
def recallFault (p : PartId) (slot : Byte) (check : Bool) (s : State) : State :=
  bump .recallFaults (offerNotice (.recallFault p slot check) s)

/-- A good recall: staged and counted; committed at once with NOW, otherwise RECALL DONE staged is offered (R111, R113). -/
def recallGood (p : PartId) (r : Staged) (timing : Timing) (s : State) : State :=
  let s1 := bump .recalls (setStaging p (some r) s)
  match timing with
  | .now => commitStaged p s1
  | .nextNote => offerNotice (.recallDone p r.slot false) s1

/-- The end of a recall read (R111): the record judged, its outcome handed on. -/
def endRecall (p : PartId) (slot : Byte) (timing : Timing) (s : State) : State :=
  let bytes := s.store.readRun (slotAddress slot) 128
  match judgeRecord bytes, staged? slot bytes with
  | .blank, _ => recallFault p slot false s
  | .check, _ => recallFault p slot true s
  | .good, some r => recallGood p r timing s
  | .good, none => s

/-! ## Page writes (R107, R115 to R117) -/

/-- The address and the bytes an operation writes; none for a read. -/
def StoreOp.image : StoreOp → Option (Nat × List Byte)
  | .patchWrite _ slot values name _ => some (slotAddress slot, patchBytes name values)
  | .setupSave t => some (0, setupBytes t)
  | .calSave records => some (0x800, calBlockBytes records)
  | _ => none

/-- The bytes of page k of an image. -/
def pageOf (bytes : List Byte) (k : Nat) : List Byte := slice (64 * k) 64 bytes

/-- A byte that keeps the old bits where the mask has 1 and takes the new where it has 0. -/
def mixByte (mask old new : Byte) : Byte := (mask &&& old) ||| (~~~ mask &&& new)

/-- A page that may hold its old content, its new content or a mixture (R107, R116): the mask is a free value (log entry 5). -/
def mixedPage (mask : BitVec 512) (old new : List Byte) : List Byte :=
  (List.range new.length).map (fun i => mixByte (mask.extractLsb' (8 * i) 8) (old.getD i 0) (new.getD i 0))

/-- The page of the operation at the head that the port is writing or polling. -/
def Port.page? : Port → Option Nat
  | .writing k => some k
  | .polling k => some k
  | _ => none

/-- The memory when the page write in progress is cut short or fails: the page is mixed (R107, R116). An absent memory keeps
reading FFH. -/
def cutPage (draw : Nat) (t : Store) : Memory :=
  match t.port.page?, t.queue.head?.bind (fun e => e.op.image), t.memFitted with
  | some k, some (base, bytes), true =>
    t.mem.writeRun (base + 64 * k)
      (mixedPage (Config.pageMixture draw) (t.mem.readRun (base + 64 * k) 64) (pageOf bytes k))
  | _, _, _ => t.mem

/-- What STORE DONE and STORE FAULT say of an operation (R171). -/
def StoreOp.notes : StoreOp → StoreKind × Option PartId × Option Byte
  | .patchWrite p slot _ _ _ => (.patch, some p, some slot)
  | .setupSave _ => (.setup, none, none)
  | _ => (.cal, none, none)

/-- The completion of a PATCH WRITE in the Parameter Memory: the window, and modified cleared where the edit count is still E
(R115 steps 1 and 2). -/
def storedPatch (op : StoreOp) (s : State) : State :=
  match op with
  | .patchWrite p slot _ _ e =>
    s.withParams { s.params with
      window := s.params.window.set p (some slot)
      modified := if s.params.editCount[p] = e then s.params.modified.set p false else s.params.modified }
  | _ => s

/-- The last page of a write has completed (R115, R117). -/
def completeWrite (op : StoreOp) (s : State) : State :=
  leaveStore (offerNotice (.storeDone op.notes.1 op.notes.2.1 op.notes.2.2) (storedPatch op s))

/-- A page write completes: the page holds its new content; the next page starts, or the operation completes (R107). -/
def completePage (op : StoreOp) (base : Nat) (bytes : List Byte) (k : Nat) (s : State) : State :=
  let s1 := s.withStore { s.store with mem := s.store.mem.writeRun (base + 64 * k) (pageOf bytes k), pageTimer := none }
  if 64 * (k + 1) < bytes.length then s1.withStore { s1.store with port := .writing (k + 1) }
  else completeWrite op s1

/-- A page write fails with TIMEOUT (R116). -/
def failPage (op : StoreOp) (s : State) : State :=
  let s1 := { s.withStore { s.store with mem := cutPage s.freeCount s.store } with freeCount := s.freeCount + 1 }
  leaveStore (bump .storeFaults (offerNotice (.storeFault op.notes.1 op.notes.2.1 op.notes.2.2) s1))

/-- The tables SETUP SAVE copies (R117). -/
def setupTables (s : State) : SetupTables :=
  { zones := s.router.zones, parts := s.router.parts, desc := s.params.desc, scale := s.pitch.scale, target := s.tuner.target,
    cfg := s.tuner.cfg, scanMap := s.panel.scanMap, controls := s.panel.controls, options := s.store.options }

/-! ## Meanings -/

/-- The port's state when the operation at the head starts (R107, R108): a read, or the first page. CAL LOAD with the option no
makes no read (R121). -/
def startedPort (loadCal : Bool) (op : StoreOp) : Port :=
  match op with
  | .recallRead _ _ _ | .setupLoad => .reading
  | .calLoad => if loadCal then .reading else .idle
  | _ => .writing 0

/-- STORE_OP_START (R108): the operation at the head starts while the port is IDLE. -/
def execStoreOpStart (s : State) : Host.Outcome State Fault Refusal :=
  act (fun s =>
    match headOp s, s.store.port with
    | some op, .idle => s.withStore { s.store with port := startedPort s.store.options.loadCal op }
    | _, _ => s) s

/-- PENDING_SELECT_PLACED (R110). -/
def execPendingSelectPlaced (s : State) : Host.Outcome State Fault Refusal := act placeSelects s

/-- RECALL_READ_END (R111): the operation completes and leaves when its outcome has been handed on. -/
def execRecallReadEnd (s : State) : Host.Outcome State Fault Refusal :=
  act (fun s =>
    match headOp s, s.store.port with
    | some (.recallRead p slot timing), .reading => leaveStore (endRecall p slot timing s)
    | _, _ => s) s

/-- NEXT_NOTE_COMMIT (R113): the Note Router's request for a part. -/
def execNextNoteCommit (p : PartId) (s : State) : Host.Outcome State Fault Refusal := act (commitStaged p) s

/-- PAGE_TRANSFER_DONE (R107): POLLING, and the 10 ms page timeout starts. -/
def execPageTransferDone (s : State) : Host.Outcome State Fault Refusal :=
  act (fun s =>
    match s.store.port with
    | .writing k => s.withStore { s.store with port := .polling k, pageTimer := some (ms 10) }
    | _ => s) s

/-- PAGE_WRITE_DONE (R107): the memory shows ready; an absent memory never does. -/
def execPageWriteDone (s : State) : Host.Outcome State Fault Refusal :=
  act (fun s =>
    match s.store.port, headOp s, s.store.memFitted with
    | .polling k, some op, true =>
      match op.image with
      | some (base, bytes) => completePage op base bytes k s
      | none => s
    | _, _, _ => s) s

/-- PAGE_TIMEOUT (R116). -/
def execPageTimeout (s : State) : Host.Outcome State Fault Refusal :=
  act (fun s =>
    match s.store.port, headOp s with
    | .polling _, some op => failPage op s
    | _, _ => s) s

end Sys2Proof.Machine
end

