-- ==== Sys2Proof/Machine/Router.lean ====
section
/-! DEFINITION. The Note Router: zones, listening, the held-key pool, note priority, ALL OFF, and the PART table's changes
(01_parts_zones_and_held_keys.md). -/

namespace Sys2Proof.Machine

open Sys2Proof

/-! ## Zones and listening (R3, R4) -/

/-- A zone matches a NOTE ON (R3). -/
def Zone.hit (z : Zone) (ch : ChannelId) (key vel : Key) : Bool :=
  z.enabled && z.channel = ch && z.keyLow ≤ key && key ≤ z.keyHigh && z.velLow ≤ vel && vel ≤ z.velHigh

/-- The sounding key a zone gives, if it lies in 0..127 (R3). -/
def Zone.sounding (z : Zone) (key : Key) : Option Key :=
  let k : Int := key.val + z.transpose
  if 0 ≤ k then fin? k.toNat 128 else none

/-- A part listens to a channel (R4). -/
def listens (s : State) (ch : ChannelId) (p : PartId) : Bool :=
  s.router.zones.toList.any (fun z => z.enabled && z.channel = ch && z.part = p)

/-- The parts that listen to a channel, part 0 first. CONTROL COARSE goes in that order by R82. For SUSTAIN off, ALL OFF and PATCH SELECT
the rules name none (R5, R8, R9), and it orders the release list, the gate commands and the store queue across parts: log entry 12,
DESIGN CHOICE. -/
def listeners (s : State) (ch : ChannelId) : List PartId := allParts.filter (listens s ch)

/-- A velocity on the line: 0 is raised to 1, above 127 is taken as 127 (R3). -/
def lineVelocity (b : Byte) : Key :=
  if b = 0 then 1 else (fin? b.toNat 128).getD 127

/-! ## The held-key pool (R13) -/

/-- The entry of a part with an origin (R13: at most one). -/
def findEntry (s : State) (p : PartId) (ch : ChannelId) (key : Key) : Option PoolPos :=
  (s.partList p).find? (fun e =>
    match s.entry e with
    | some x => x.channel = ch && x.sourceKey = key
    | none => false)

/-- The lowest-numbered free position (R13). -/
def freePosition (s : State) : Option PoolPos := (List.finRange 32).find? (fun e => (s.entry e).isNone)

/-- A new WAITING entry at the tail of its part's list (R13, R14). -/
def addEntry (p : PartId) (e : PoolPos) (ch : ChannelId) (key sounding vel : Key) (s : State) : State :=
  (s.setEntry e (some { part := p, channel := ch, sourceKey := key, soundingKey := sounding, vel,
                        state := .waiting, voices := 0 })).setPartList p (s.partList p ++ [e])

/-- A retriggered entry takes the new velocity and moves to the tail; its sounding key is kept (R14). -/
def touchEntry (p : PartId) (e : PoolPos) (vel : Key) (s : State) : State :=
  (s.modEntry e (fun x => { x with vel })).setPartList p ((s.partList p).filter (· ≠ e) ++ [e])

/-! ## Part note-ons (R14, R17, R18) -/

/-- The retrigger of a POLY entry: its HELD voice takes the new velocity and gets GATE ON; a WAITING entry keeps the velocity for
its voice's damp end or a later revival (R32). -/
def polyRetrigger (e : PoolPos) (s : State) : State := groupRetrigger e s

/-- What a MONO or UNISON part hands on after a press or retrigger, from its sounding entry before (R18). -/
def groupPress (p : PartId) (old : Option PoolPos) (pressed : PoolPos) (retrigger : Bool) (s : State) : State :=
  match old, soundingEntry s p with
  | none, some new => firstKey p new s
  | some o, some new =>
    if new ≠ o then soundingChange p o new (voicesOf s o) s
    else if retrigger ∧ pressed = new then groupRetrigger new s
    else s
  | _, none => s

/-- A part note-on: retrigger, new entry, or dropped for a full pool (R14, R17). -/
def partNoteOn (p : PartId) (ch : ChannelId) (key sounding vel : Key) (s : State) : State :=
  match findEntry s p ch key with
  | some e =>
    match (s.part p).mode with
    | .poly => polyRetrigger e (touchEntry p e vel s)
    | _ => groupPress p (soundingEntry s p) e true (touchEntry p e vel s)
  | none =>
    match freePosition s with
    | none => dropNote p s
    | some e =>
      match (s.part p).mode with
      | .poly => polyAllocate p e sounding (addEntry p e ch key sounding vel s)
      | _ => groupPress p (soundingEntry s p) e false (addEntry p e ch key sounding vel s)

/-- The zones of a NOTE ON in index order; a part's staged NEXT NOTE record is committed before its first part note-on (R3, R113). -/
def visitZones (ch : ChannelId) (key vel : Key) : List Zone → List PartId → State → State
  | [], _, s => s
  | z :: zs, served, s =>
    match z.hit ch key vel, z.sounding key with
    | true, some k =>
      visitZones ch key vel zs (z.part :: served)
        (partNoteOn z.part ch key k vel (if z.part ∈ served then s else commitStaged z.part s))
    | _, _ => visitZones ch key vel zs served s

/-- NOTE ON as the Note Router takes it (R3). -/
def takeNoteOn (channel key velocity : Byte) (s : State) : State :=
  match fin? channel.toNat 16, fin? key.toNat 128 with
  | some ch, some k => visitZones ch k (lineVelocity velocity) s.router.zones.toList [] s
  | _, _ => s

/-! ## Releases (R15, R18) -/

/-- The release of a POLY entry, already removed: its voice's key goes up, or a voice damping toward it loses its assignment (R15). -/
def polyRelease (p : PartId) (e : PoolPos) (x : HeldEntry) (s : State) : State :=
  match x.state with
  | .voiced => forEach (members x.voices) (releaseOrTransfer p) s
  | .waiting => cancelToward p e s

/-- The release of a MONO or UNISON entry, already removed, from the sounding entry before (R18). -/
def groupRelease (p : PartId) (old : Option PoolPos) (e : PoolPos) (x : HeldEntry) (s : State) : State :=
  match soundingEntry s p with
  | none => lastKeyUp p e x.voices s
  | some new => if old = some e then soundingChange p e new x.voices s else s

/-- An entry is released in its part (R15). -/
def releaseEntry (p : PartId) (e : PoolPos) (x : HeldEntry) (s : State) : State :=
  match (s.part p).mode with
  | .poly => polyRelease p e x (removeEntry e s)
  | _ => groupRelease p (soundingEntry s p) e x (removeEntry e s)

/-- NOTE OFF for one part (R15). -/
def partNoteOff (ch : ChannelId) (key : Key) (p : PartId) (s : State) : State :=
  match findEntry s p ch key with
  | some e =>
    match s.entry e with
    | some x => releaseEntry p e x s
    | none => s
  | none => s

/-- NOTE OFF as the Note Router takes it (R15). The rule names no order among the four parts: part 0 goes first (log entry 12, DESIGN
CHOICE). -/
def takeNoteOff (channel key : Byte) (s : State) : State :=
  match fin? channel.toNat 16, fin? key.toNat 128 with
  | some ch, some k => forEach allParts (partNoteOff ch k) s
  | _, _ => s

/-! ## Channel events (R5 to R9) -/

/-- Runs an event once on every listening part; a channel above 15 is ignored (R4). -/
def onListeners (channel : Byte) (f : PartId → State → State) (s : State) : State :=
  match fin? channel.toNat 16 with
  | some ch => forEach (listeners s ch) f s
  | none => s

/-- SUSTAIN on a part (R5): off releases its SUSTAINED voices. -/
def partSustain (on : Bool) (p : PartId) (s : State) : State :=
  if on then s.setSustain p true
  else if s.router.sustain[p] then releaseGated p (· = .sustained) (s.setSustain p false)
  else s

/-- BEND on a part: the part's voices are recomputed when the value differs (R6, R72). -/
def partBend (b : Int) (p : PartId) (s : State) : State :=
  if s.router.bend[p] = b then s
  else computePart p (s.withRouter { s.router with bend := s.router.bend.set p b })

/-- BEND as the Note Router takes it: u above 16383 is ignored (R6, R194). -/
def takeBend (channel : Byte) (u : Word) (s : State) : State :=
  if 16383 < u.toNat then s else onListeners channel (partBend (u.toNat - 8192)) s

/-- Sets a channel's fine latch (R7). -/
def setLatch (ch : ChannelId) (x : Option (ParamId × Fin 64)) (s : State) : State :=
  s.withRouter { s.router with latches := s.router.latches.set ch x }

/-- CONTROL FINE (R7). -/
def takeFine (channel parameter low : Byte) (s : State) : State :=
  match fin? channel.toNat 16, fin? parameter.toNat 48, fin? low.toNat 64 with
  | some ch, some n, some l => setLatch ch (some (n, l)) s
  | _, _, _ => s

/-- The low part a CONTROL COARSE takes from the latch (R7). -/
def latchedLow (x : Option (ParamId × Fin 64)) (n : ParamId) : Nat :=
  match x with
  | some (m, l) => if m = n then l.val else 0
  | none => 0

/-- CONTROL COARSE (R7, R82): the latch is emptied, and the value written to every listening part. -/
def takeCoarse (channel parameter high : Byte) (s : State) : State :=
  match fin? channel.toNat 16, fin? parameter.toNat 48, fin? high.toNat 64 with
  | some ch, some n, some h =>
    forEach (listeners s ch) (fun p => writeParam p n (h.val * 64 + latchedLow s.router.latches[ch] n)) (setLatch ch none s)
  | _, _, _ => s

/-- ALL OFF on a part, in the four steps of R8. -/
def partAllOff (p : PartId) (s : State) : State :=
  cancelPart p
    (releaseGated p (fun st => st = .held || st = .sustained)
      ((forEach (s.partList p) removeEntry s).setSustain p false))

/-- PATCH SELECT on a part, with its select timing at the event (R9). -/
def partSelect (slot : Byte) (p : PartId) (s : State) : State := selectRecall p slot (s.part p).select s

/-! ## PART writes (R11) -/

/-- Stores a part's settings. -/
def storePart (p : PartId) (c : PartCfg) (s : State) : State :=
  s.withRouter { s.router with parts := s.router.parts.set p c }

/-- The fields whose change is structural (R11). -/
def PartCfg.structuralChange (old new : PartCfg) : Bool :=
  old.mode ≠ new.mode || old.unisonCount ≠ new.unisonCount || old.pool ≠ new.pool || old.maxVoices ≠ new.maxVoices

/-- The part cleared before a structural change, in the four steps of R11; the voices in voice order (log entry 12). -/
def clearPart (p : PartId) (s : State) : State :=
  let s1 := (forEach (s.partList p) removeEntry s).setSustain p false
  cancelPart p (forEach (allVoices.filter (soundsFor s1 p)) (fun v => dampVoice v .none) s1)

/-- A change of note priority: the sounding entry is chosen again, and a move is a sounding change with keys held (R11). -/
def rechoose (p : PartId) (old : Option PoolPos) (s : State) : State :=
  match (s.part p).mode, old, soundingEntry s p with
  | .poly, _, _ => s
  | _, some o, some new => if new ≠ o then soundingChange p o new (voicesOf s o) s else s
  | _, _, _ => s

/-- One entry of an accepted PART write (R11). -/
def writePart (p : PartId) (c : PartCfg) (s : State) : State :=
  if (s.part p).structuralChange c then storePart p c (clearPart p s)
  else
    let s1 := rechoose p (soundingEntry s p) (storePart p c s)
    if (s.part p).scale = c.scale then s1 else computePart p s1

end Sys2Proof.Machine
end

