-- ==== Sys2Proof/Machine/Link.lean ====
section
/-! DEFINITION. The Link Interface: the receiver and the frames it takes, the request queue, silence, the outbound line and the
missed-control set (09_event_link_and_notices.md); with them the expiries of the glide, damp and release timers. -/

namespace Sys2Proof.Machine

open Sys2Proof

/-! ## The receiver (R164 to R166) -/

/-- Bytes reach the receiver in HUNT: the hunt goes on over the bytes held (R165). -/
def huntBytes (bytes : List RxByte) (s : State) : State :=
  match hunt (s.link.held ++ bytes) with
  | (some rest, _) => s.withLink { s.link with rx := .candidate, held := rest }
  | (none, held) => s.withLink { s.link with held }

/-- Any good frame acted on restarts the silence timer once it has been started (R168). -/
def restartSilence : SilenceTimer → SilenceTimer
  | .stopped => .stopped
  | _ => .running (ms 300)

/-- The LINK notice of an entry into LOCKED with the loss-of-lock flag set; the flag is cleared (R166). -/
def reportLock (entering : Bool) (s : State) : State :=
  if entering && s.link.lossFlag then offerNotice (.link 1) (s.withLink { s.link with lossFlag := false }) else s

/-- A good frame of n bytes in CANDIDATE or LOCKED, before it is taken by its kind (R166, R167). -/
def acceptFrame (n : Nat) (s : State) : State :=
  reportLock (s.link.rx = .candidate) (bump .framesGood (s.withLink
    { s.link with rx := .locked, badRun := 0, held := s.link.held.drop n, silence := restartSilence s.link.silence }))

/-- A good frame reaches the receiver: hunted over in HUNT, acted on otherwise (R165, R166). -/
def receive (f : Frame) (taken : State → State) (s : State) : State :=
  match s.link.rx with
  | .hunt => huntBytes (rxBytes f) s
  | .candidate | .locked => taken (acceptFrame (frameBytes f).length s)

/-- An event is handed to the Note Router, or discarded before READY (R119, R167). -/
def event (taken : State → State) (s : State) : State := if s.req.phase = .ready then taken s else s

/-- The third bad frame in a row: HUNT, RESYNCS, the loss-of-lock flag (R166). -/
def loseLock (s : State) : State :=
  bump .resyncs (s.withLink { s.link with rx := .hunt, badRun := 0, lossFlag := true })

/-- A bad frame whose last n bytes may be held (R166). Bytes still held when it leads to HUNT are hunted over with the next bytes to
arrive (log entry 16, DESIGN CHOICE). -/
def rejectFrame (n : Nat) (s : State) : State :=
  let s1 := bump .framesBad (s.withLink { s.link with held := s.link.held.drop n })
  match s.link.rx with
  | .hunt => s
  | .candidate => s1.withLink { s1.link with rx := .hunt }
  | .locked =>
    if 3 ≤ s.link.badRun + 1 then loseLock s1 else s1.withLink { s1.link with badRun := s.link.badRun + 1 }

/-- A gap of 2 ms (R164, R165): the bytes held are discarded in HUNT, and the frame abandoned as bad otherwise. -/
def abandonFrame (bytes : List RxByte) (s : State) : State :=
  match s.link.rx with
  | .hunt => s.withLink { s.link with held := [] }
  | _ =>
    if bytes = [] ∧ s.link.held = [] then s
    else
      let s1 := rejectFrame bytes.length s
      s1.withLink { s1.link with held := [] }

/-! ## The request queue (R169) -/

/-- A request dropped by a full queue (R169). -/
def dropRequest (s : State) : State :=
  let s1 := bump .requestsDropped s
  offerNotice (.overrun 1) (s1.withLink { s1.link with overrun := true })

/-- A request joins the tail of the queue, or is dropped (R169). -/
def queueRequest (f : Frame) (s : State) : State :=
  if s.link.requests.length < Config.requestCap then s.withLink { s.link with requests := s.link.requests ++ [f] }
  else dropRequest s

/-! ## The outbound line and the missed set (R170, R174) -/

/-- The lowest-numbered control marked in the missed set (R174). -/
def lowestMissed (l : Link) : Option ControlId := allControls.find? (fun c => l.missed.getLsbD c.val)

/-- The CONTROL CHANGE of a refill (R174): the reported value and the detached flag as they stand. -/
def refillNotice (s : State) (c : ControlId) : Notice :=
  .controlChange c (s.panel.states[c].reported.getD 0) (detached s c)

/-- One refill: the control's notice joins the tail and its mark is cleared (R174). -/
def refill (c : ControlId) (s : State) : State :=
  s.withLink (startOutbound { s.link with
    notices := s.link.notices ++ [refillNotice s c], missed := setMissed s.link.missed c false,
    refillsDue := s.link.refillsDue - 1 })

/-- The end of an outbound frame that begins no reset (R170). -/
def endOutbound (s : State) : State :=
  s.withLink (startOutbound { s.link with line := none, idleTimer := some (ms 100) })

/-! ## Frames and events -/

/-- HUNT_GOOD_FRAME (R165): bytes received in HUNT. -/
def execHuntGoodFrame (bytes : List RxByte) (s : State) : Host.Outcome State Fault Refusal :=
  act (fun s =>
    match s.link.rx with
    | .hunt => huntBytes bytes s
    | _ => s) s

/-- FRAME_GAP_TIMEOUT (R164). -/
def execFrameGapTimeout (bytes : List RxByte) (s : State) : Host.Outcome State Fault Refusal := act (abandonFrame bytes) s

/-- BAD_FRAME (R166): the bytes are those of one bad frame, whole; in HUNT they are hunted over (R165). -/
def execBadFrame (bytes : List RxByte) (s : State) : Host.Outcome State Fault Refusal :=
  act (fun s =>
    match s.link.rx with
    | .hunt => huntBytes bytes s
    | _ => if judge bytes = .bad bytes.length then rejectFrame bytes.length s else s) s

/-- IDLE_FRAME (R167). -/
def execIdleFrame (s : State) : Host.Outcome State Fault Refusal := act (receive ⟨0, []⟩ (fun s => s)) s

/-- IGNORED_FRAME (R167). -/
def execIgnoredFrame (f : Frame) (s : State) : Host.Outcome State Fault Refusal :=
  act (fun s => if f.fits && ignorable f then receive f (fun s => s) s else s) s

/-- NOTE_ON (R3). -/
def execNoteOn (channel key velocity : Byte) (s : State) : Host.Outcome State Fault Refusal :=
  act (receive ⟨0x10#8, [channel, key, velocity]⟩ (event (takeNoteOn channel key velocity))) s

/-- NOTE_OFF (R15). -/
def execNoteOff (channel key : Byte) (s : State) : Host.Outcome State Fault Refusal :=
  act (receive ⟨0x11#8, [channel, key]⟩ (event (takeNoteOff channel key))) s

/-- SUSTAIN (R5): state 00H is off, any other on (R194). -/
def execSustain (channel onOff : Byte) (s : State) : Host.Outcome State Fault Refusal :=
  act (receive ⟨0x12#8, [channel, onOff]⟩ (event (onListeners channel (partSustain (onOff ≠ 0))))) s

/-- BEND (R6). -/
def execBend (channel : Byte) (u : Word) (s : State) : Host.Outcome State Fault Refusal :=
  act (receive ⟨0x13#8, channel :: bytesOfWord u⟩ (event (takeBend channel u))) s

/-- CONTROL_FINE (R7). -/
def execControlFine (channel parameter low : Byte) (s : State) : Host.Outcome State Fault Refusal :=
  act (receive ⟨0x14#8, [channel, parameter, low]⟩ (event (takeFine channel parameter low))) s

/-- CONTROL_COARSE (R7). -/
def execControlCoarse (channel parameter high : Byte) (s : State) : Host.Outcome State Fault Refusal :=
  act (receive ⟨0x15#8, [channel, parameter, high]⟩ (event (takeCoarse channel parameter high))) s

/-- ALL_OFF (R8). -/
def execAllOff (channel : Byte) (s : State) : Host.Outcome State Fault Refusal :=
  act (receive ⟨0x16#8, [channel]⟩ (event (onListeners channel partAllOff))) s

/-- PATCH_SELECT (R9). -/
def execPatchSelect (channel slot : Byte) (s : State) : Host.Outcome State Fault Refusal :=
  act (receive ⟨0x17#8, [channel, slot]⟩ (event (onListeners channel (partSelect slot)))) s

/-- REQUEST_ARRIVAL (R169). -/
def execRequestArrival (f : Frame) (s : State) : Host.Outcome State Fault Refusal :=
  act (fun s => if f.fits && isRequestKind f.kind then receive f (queueRequest f) s else s) s

/-! ## The response FIFO and the outbound line -/

/-- RESPONSE_JOIN (R169): a held response joins the FIFO once it has room. -/
def execResponseJoin (s : State) : Host.Outcome State Fault Refusal :=
  act (fun s =>
    match s.req.hand with
    | .held r => joinResponse r s
    | _ => s) s

/-- MISSED_REFILL (R174): the refill that a departure has made due. With the set empty it does nothing. -/
def execMissedRefill (s : State) : Host.Outcome State Fault Refusal :=
  act (fun s =>
    if s.link.refillsDue = 0 ∨ Config.noticeCap ≤ s.link.notices.length then s
    else
      match lowestMissed s.link with
      | some c => refill c s
      | none => s.withLink { s.link with refillsDue := s.link.refillsDue - 1 }) s

/-- OUTBOUND_IDLE_TIMEOUT (R170): on a free line an IDLE frame is sent. -/
def execOutboundIdleTimeout (s : State) : Host.Outcome State Fault Refusal :=
  act (fun s =>
    match s.link.idleTimer, s.link.line with
    | some _, none => s.withLink { s.link with idleTimer := none, line := some .idle }
    | some _, some _ => s.withLink { s.link with idleTimer := none }
    | none, _ => s) s

/-! ## Timers of the link, the Pitch Engine and the Voice Allocator -/

/-- The silence action (R168). R19 names no order among the parts: part 0 goes first (log entry 12, DESIGN CHOICE). -/
def silenceAction (s : State) : State :=
  let s1 := offerNotice .silence (bump .silences (forEach allParts partAllOff s))
  s1.withLink { s1.link with silence := .expired }

/-- SILENCE_ACTION (R168): the silence timer expires. -/
def execSilenceAction (s : State) : Host.Outcome State Fault Refusal :=
  act (fun s =>
    match s.link.silence with
    | .running _ => silenceAction s
    | _ => s) s

/-- GLIDE_STEP (R58): the glide timer expires and is restarted. -/
def execGlideStep (s : State) : Host.Outcome State Fault Refusal :=
  act (fun s =>
    match s.pitch.glideTimer with
    | some _ => forEach allVoices glideVoice (s.withPitch { s.pitch with glideTimer := some (ms 1) })
    | none => s) s

/-- DAMP_END (R36): a voice's damp timer expires. -/
def execDampEnd (v : VoiceId) (s : State) : Host.Outcome State Fault Refusal :=
  act (fun s =>
    match (s.voice v).state, (s.voice v).damp with
    | .damping, some _ => endDamp v s
    | _, _ => s) s

/-- RELEASE_DEADLINE_EXPIRY (R38). -/
def execReleaseDeadlineExpiry (v : VoiceId) (s : State) : Host.Outcome State Fault Refusal :=
  act (fun s =>
    match (s.voice v).state, (s.voice v).release with
    | .releasing, some _ => offerIdle v (enterIdle v s)
    | _, _ => s) s

end Sys2Proof.Machine
end

