-- ==== Sys2Proof/Machine/Panel.lean ====
section
/-! DEFINITION. The Panel Scanner: the scan round, priming, the two filters, accepted changes, and the writes of the SCAN MAP and the
CONTROL table (05_panel_scanning.md). -/

namespace Sys2Proof.Machine

open Sys2Proof

/-! ## State updates -/

/-- Changes a control's runtime state. -/
def modControlState (c : ControlId) (f : ControlState → ControlState) (s : State) : State :=
  s.withPanel { s.panel with states := s.panel.states.set c (f s.panel.states[c]) }

/-- Changes a control's configuration. -/
def modControl (c : ControlId) (f : ControlCfg → ControlCfg) (s : State) : State :=
  s.withPanel { s.panel with controls := s.panel.controls.set c (f s.panel.controls[c]) }

/-- Sets a control's run count to 0. -/
def clearRun (c : ControlId) (s : State) : State := modControlState c (fun x => { x with runCount := 0 }) s

/-! ## The scan round (R92) -/

/-- The index of position (input, address): 16 × input + address. -/
def position (a : Fin 6) (m : Fin 16) : Fin 96 := ⟨16 * a.val + m.val, by omega⟩

/-- The control mapped at a position. -/
def mappedAt (s : State) (a : Fin 6) (m : Fin 16) : Option ControlId := s.panel.scanMap[position a m]

/-- The first mapped input at an address, from input `lo` on. -/
def nextInput (s : State) (m : Fin 16) (lo : Nat) : Option (Fin 6) :=
  (List.finRange 6).find? (fun a => lo ≤ a.val && (mappedAt s a m).isSome)

/-- The first address with a mapped position, from address `lo` on. -/
def nextAddress (s : State) (lo : Nat) : Option (Fin 16) :=
  (List.finRange 16).find? (fun m => lo ≤ m.val && (nextInput s m 0).isSome)

/-- Where the round stands, with the 5 µs it takes there. -/
def setRound (r : ScanRound) (s : State) : State :=
  s.withPanel { s.panel with round := r, roundTimer := if r = .none then none else some Config.ticksPer5us }

/-- The round goes on to the next mapped address from `lo` on, which is driven, or ends (R92). -/
def driveFrom (lo : Nat) (s : State) : State :=
  match nextAddress s lo with
  | some m => setRound (.settling m) (s.withPanel { s.panel with mxa := m })
  | none => setRound .none s

/-- The round goes on to the next mapped input at an address from input `lo` on, or to the next address. -/
def convertFrom (m : Fin 16) (lo : Nat) (s : State) : State :=
  match nextInput s m lo with
  | some a => setRound (.converting m a) s
  | none => driveFrom (m.val + 1) s

/-- Restarts the scan period timer for the period in force (R92, R104). -/
def startScanTimer (s : State) : State := s.withPanel { s.panel with scanTimer := some (ms s.store.options.scanPeriod) }

/-! ## Accepted changes (R102, R103) -/

/-- The notice of an accepted change, where both report settings are on (R103). -/
def reportChangeOf (c : ControlId) (reported : Word12) (applied : Bool) (s : State) : State :=
  if s.panel.controls[c].report && s.store.options.panelReport then offerNotice (.controlChange c reported (!applied)) s else s

/-- An accepted change, its reported value already taken: the Parameter Memory first, then the notice (R102). -/
def acceptChange (c : ControlId) (reported : Word12) (s : State) : State :=
  match s.panel.controls[c].binding with
  | some (p, n) => reportChangeOf c reported (panelChange c p n reported s).2 (panelChange c p n reported s).1
  | none => reportChangeOf c reported true s

/-! ## The filters (R99 to R101) -/

/-- The persistence number of a persistence code (R95). -/
def persistenceOf (code : Fin 8) : Nat := #v[1, 2, 3, 4, 6, 8, 12, 16][code]

/-- The level of a SWITCH sample: the reported value it stands for, or neither (R99, R101). -/
def switchLevel (x : Word12) : Option Word12 :=
  if 2867 ≤ x.toNat then some 4095 else if x.toNat ≤ 1228 then some 0 else none

/-- The reported value a priming sample gives, if it primes (R99). -/
def primingValue (t : ControlType) (x : Word12) : Option Word12 :=
  match t with
  | .knob => some x
  | .switch => switchLevel x

/-- A priming sample: the control is primed and, if bound with PICKUP, evaluated (R99). -/
def primeControl (c : ControlId) (x : Word12) (s : State) : State :=
  match primingValue s.panel.controls[c].type x with
  | some v => evaluate c (modControlState c (fun y => { y with reported := some v }) s)
  | none => s

/-- What a sample of a primed control qualifies as: the value an accepted change would report, or none (R100, R101). -/
def qualifies (k : ControlCfg) (reported x : Word12) : Option Word12 :=
  match k.type with
  | .knob => if absInt ((x.toNat : Int) - reported.toNat) ≤ k.deadBand.toNat then none else some x
  | .switch =>
    match switchLevel x with
    | some v => if v = reported then none else some v
    | none => none

/-- A qualifying sample: the run grows, and a run that reaches P is an accepted change (R100, R101). -/
def growRun (c : ControlId) (v : Word12) (s : State) : State :=
  if s.panel.states[c].runCount + 1 < persistenceOf s.panel.controls[c].persistence then
    modControlState c (fun y => { y with runCount := y.runCount + 1 }) s
  else acceptChange c v (modControlState c (fun _ => { reported := some v, runCount := 0 }) s)

/-- A sample passed to the filter of its control (R93). -/
def filterSample (c : ControlId) (x : Word12) (s : State) : State :=
  match s.panel.states[c].reported with
  | none => primeControl c x s
  | some r =>
    match qualifies s.panel.controls[c] r x with
    | some v => growRun c v s
    | none => clearRun c s

/-- The sample of a position, matched to its control as the SCAN MAP stands (R93). -/
def takeSample (m : Fin 16) (a : Fin 6) (x : Word12) (s : State) : State :=
  match mappedAt s a m with
  | some c => filterSample c x s
  | none => s

/-! ## SCAN MAP writes (R94) -/

/-- The run count of a control that a SCAN MAP entry names is set to 0. -/
def clearRunOf (c : Option ControlId) (s : State) : State :=
  match c with
  | some c => clearRun c s
  | none => s

/-- One entry of an accepted SCAN MAP write: any other entry that names the control becomes none, and the controls moved or left
without a position start a new run (R94). -/
def writeScanEntry (n : Fin 96) (c : Option ControlId) (s : State) : State :=
  if s.panel.scanMap[n] = c then s
  else
    clearRunOf c (clearRunOf s.panel.scanMap[n] (s.withPanel { s.panel with
      scanMap := (mapVec (fun d => if c.isSome ∧ d = c then none else d) s.panel.scanMap).set n c }))

/-! ## CONTROL writes (R97, R98) -/

/-- The reported value after a change of type (R97). -/
def retype (new : ControlType) (reported : Option Word12) : Option Word12 :=
  match new with
  | .switch => reported.map (fun r => if 2048 ≤ r.toNat then 4095 else 0)
  | .knob => reported

/-- The type of a control is written (R97). -/
def writeType (c : ControlId) (t : ControlType) (s : State) : State :=
  if s.panel.controls[c].type = t then s
  else modControl c (fun k => { k with type := t })
    (modControlState c (fun x => { reported := retype t x.reported, runCount := 0 }) s)

/-- The dead-band of a control is written; the control is evaluated with the new band (R97). -/
def writeBand (c : ControlId) (b : Byte) (s : State) : State :=
  if s.panel.controls[c].deadBand = b then s else evaluate c (modControl c (fun k => { k with deadBand := b }) s)

/-- The persistence code of a control is written (R97). -/
def writePersistence (c : ControlId) (x : Fin 8) (s : State) : State :=
  if s.panel.controls[c].persistence = x then s else clearRun c (modControl c (fun k => { k with persistence := x }) s)

/-- The report field of a control is written (R97). -/
def writeReport (c : ControlId) (b : Bool) (s : State) : State := modControl c (fun k => { k with report := b }) s

/-- A control loses its binding and its pickup entry (R98 step 1). -/
def unbind (c : ControlId) (s : State) : State := removePickup c (modControl c (fun k => { k with binding := none }) s)

/-- The other controls bound to a pair are unbound (R98 step 1). -/
def unbindOthers (c : ControlId) (b : Option (PartId × ParamId)) (s : State) : State :=
  match b with
  | some _ => forEach (allControls.filter (fun d => d ≠ c && s.panel.controls[d].binding = b)) unbind s
  | none => s

/-- Binding and takeover of a control are written (R98). -/
def writeBinding (c : ControlId) (b : Option (PartId × ParamId)) (t : Takeover) (s : State) : State :=
  let old := s.panel.controls[c]
  let s1 := modControl c (fun k => { k with binding := b, takeover := t }) (unbindOthers c b s)
  let s2 := if old.binding ≠ b ∨ (old.takeover = .pickup ∧ t = .jump) then removePickup c s1 else s1
  if old.binding ≠ b ∨ (old.takeover = .jump ∧ t = .pickup) then evaluate c s2 else s2

/-- One entry of an accepted CONTROL write: binding and takeover after the other fields (R97, R98). Among those R97 names no order: the
type goes first, so that the evaluation of a new dead-band takes the reported value after the type change (log entry 12, DESIGN CHOICE). -/
def writeControl (c : ControlId) (k : ControlCfg) (s : State) : State :=
  writeBinding c k.binding k.takeover
    (writeReport c k.report (writePersistence c k.persistence (writeBand c k.deadBand (writeType c k.type s))))

/-! ## Meanings -/

/-- SCAN_ROUND (R92): the scan period timer expires, is restarted, and a round starts. -/
def execScanRound (s : State) : Host.Outcome State Fault Refusal :=
  act (fun s =>
    match s.panel.scanTimer, s.panel.round with
    | some _, .none => driveFrom 0 (startScanTimer s)
    | _, _ => s) s

/-- SCAN_SETTLE (R92): the settle time at an address ends. -/
def execScanSettle (s : State) : Host.Outcome State Fault Refusal :=
  act (fun s =>
    match s.panel.round with
    | .settling m => convertFrom m 0 s
    | _ => s) s

/-- SCAN_SAMPLE (R93): a conversion ends, and its sample is passed to the filter of its control. -/
def execScanSample (sample : Word12) (s : State) : Host.Outcome State Fault Refusal :=
  act (fun s =>
    match s.panel.round with
    | .converting m a => convertFrom m (a.val + 1) (takeSample m a sample s)
    | _ => s) s

end Sys2Proof.Machine
end

