-- ==== Sys2Proof/Machine/Tuner.lean ====
section
/-! DEFINITION. The Tuner: calibration records, the frequency counter and measurements, breakpoint searches, tune runs and the drift
watch (07_calibration_and_auto_tune.md). -/

namespace Sys2Proof.Machine

open Sys2Proof

/-! ## Calibration records (R125, R126) -/

/-- Stores a record. -/
def storeRecord (v : VoiceId) (src : Source) (r : CalRecord) (s : State) : State :=
  s.withTuner { s.tuner with cal := s.tuner.cal.set (State.calIndex v src) r }

/-- A change of last result alone (R126): no replacement. -/
def setLastResult (v : VoiceId) (src : Source) (x : LastResult) (s : State) : State :=
  storeRecord v src { s.cal v src with last := x } s

/-- The voice's drift count returns to 0 and the voice leaves the retune set (R126 step 4). -/
def forgetDrift (v : VoiceId) (s : State) : State :=
  s.withTuner { s.tuner with driftCount := s.tuner.driftCount.set v 0, retuneSet := eraseVoice s.tuner.retuneSet v }

/-- The replacement of a record, with its effects in their order (R126). -/
def replaceRecord (v : VoiceId) (src : Source) (r : CalRecord) (s : State) : State :=
  let s1 := storeRecord v src r s
  match src with
  | .filter => computeVoice v (followFilter v s1)
  | .oscA => forgetDrift v (computeVoice v (benchAfterWrite v (!r.valid) s1))
  | .oscB => computeVoice v (benchAfterWrite v (!r.valid) s1)

/-- A record made VOID by NO SIGNAL, its codes kept (R137, R144). -/
def voidBySignal (v : VoiceId) (src : Source) (s : State) : State :=
  replaceRecord v src { s.cal v src with valid := false, last := .noSignal } s

/-! ## Measurements (R130, R131) -/

/-- The slot a source is driven on (R131). -/
def Source.slot : Source → SlotId
  | .oscA => 0 | .oscB => 1 | .filter => 2

/-- A measurement starts: the code is driven, settle time and timeout are read (R129, R131). -/
def beginMeasure (v : VoiceId) (src : Source) (code : Word) (w : Nat) (s : State) : State :=
  let s1 := setSlot v src.slot code s
  s1.withTuner { s1.tuner with
    meas := some { voice := v, source := src, code, w, settleTicks := ms s1.tuner.cfg.settle / 2,
                   timeoutTicks := ms s1.tuner.cfg.timeout } }

/-- The counter returns to IDLE and its timers stop; no measurement is in progress (R130). -/
def stopMeasure (s : State) : State :=
  s.withTuner { s.tuner with meas := none, counter := .idle, noSignal := none, settle := none }

/-- The card holds the selection and the code of a measurement (R131, R157): a setting counts as held only while the
tune command latch is empty (log entry 10, DEDUCED). -/
def settingHeld (s : State) (m : Measurement) : Bool :=
  s.vlink.latch = none && s.vlink.cardSel = some (m.voice, m.source) && s.vlink.sent[m.voice][m.source.slot] = some m.code

/-! ## The run record (R139) -/

/-- Changes the run record, if there is one. -/
def modRun (f : Run → Run) (s : State) : State := s.withTuner { s.tuner with run := s.tuner.run.map f }

/-- Sets the search in progress. -/
def setJob (j : Option SourceJob) (s : State) : State := s.withTuner { s.tuner with job := j }

/-- The sources in the order of R135. -/
def sourceOrder : List Source := [.oscA, .oscB, .filter]

/-- A source is in a source scope (R193). -/
def inScope (scope : BitVec 3) (src : Source) : Bool :=
  match src with
  | .oscA => scope.getLsbD 0
  | .oscB => scope.getLsbD 1
  | .filter => scope.getLsbD 2

/-- The sources after a given one in the order of R135. -/
def sourcesAfter : Source → List Source
  | .oscA => [.oscB, .filter]
  | .oscB => [.filter]
  | .filter => []

/-- The first source of a list in the scope of the run. -/
def firstInScope (s : State) (l : List Source) : Option Source :=
  match s.tuner.run with
  | some r => l.find? (inScope r.sources)
  | none => none

/-- A VOICE TUNED notice (R138). -/
def voiceTunedNotice (v : VoiceId) (s : State) : State :=
  offerNotice (.voiceTuned v (s.cal v .oscA).last (s.cal v .oscB).last (s.cal v .filter).last) s

/-- A moment of R146: a retune run is due while auto retune is on, the retune set is not empty and no run is active (log entry 9). -/
def retuneMoment (s : State) : State :=
  if s.tuner.cfg.autoRetune && s.tuner.retuneSet ≠ 0 && s.tuner.run.isNone then s.withTuner { s.tuner with retuneDue := true } else s

/-- The end of a run (R142). -/
def endRun (r : Run) (s : State) : State :=
  let s1 := offerNotice (.tuneDone r.origin r.passed r.failed false) s
  retuneMoment (s1.withTuner { s1.tuner with run := none })

/-- The run ends when not done has become empty (R142). -/
def endRunIfDone (s : State) : State :=
  match s.tuner.run with
  | some r => if r.notDone = 0 then endRun r s else s
  | none => s

/-- The end of a voice's tuning (R138). The voice leaves not done before its return, so that the offer of its return finds it done. -/
def endVoice (v : VoiceId) (s : State) : State :=
  let s1 := voiceTunedNotice v (placeTune .release (setJob none s))
  endRunIfDone (settleVoice v (modRun (fun r => { r with notDone := eraseVoice r.notDone v, current := none }) s1))

/-! ## Searching one breakpoint (R132 to R134) -/

/-- The new code of breakpoint i (R132). -/
def SourceJob.newCode (j : SourceJob) (i : Nat) : Int := j.found[i - j.first]?.getD 0

/-- The search for breakpoint i is wide (R132). -/
def SourceJob.wide (j : SourceJob) (i : Nat) : Bool := !j.old.valid && (i = j.first || i = j.first + 1)

/-- The seed of breakpoint i (R132). -/
def SourceJob.seed (j : SourceJob) (i : Nat) : Int :=
  if j.wide i then 32768
  else if i = j.first then codeAt j.old.codes j.first
  else if i = j.first + 1 then
    clampInt 0 65535 (j.newCode j.first + (codeAt j.old.codes (j.first + 1) - codeAt j.old.codes j.first))
  else clampInt 0 65535 (j.newCode (i - 1) + (j.newCode (i - 1) - j.newCode (i - 2)))

/-- The start step of breakpoint i (R132). -/
def SourceJob.startStep (j : SourceJob) (i : Nat) : Nat := if j.wide i then 16384 else j.s0

/-- The code of a search is measured. -/
def measureJob (j : SourceJob) (s : State) : State :=
  beginMeasure j.voice j.source (BitVec.ofInt 16 j.code) j.w (setJob (some j) s)

/-- The target of a breakpoint. -/
def targetAt (s : State) (i : Nat) : Target := s.tuner.target[i]?.getD ⟨1, 1⟩

/-- The search of a breakpoint starts: W and T are taken, the adjusting stage set up, the seed measured (R128, R132, R133). -/
def beginBreakpoint (i : Nat) (j : SourceJob) (s : State) : State :=
  measureJob { j with bp := i, w := (targetAt s i).w, t := (targetAt s i).t, code := j.seed i, step := j.startStep i,
                      limit := false, verifying := false } s

/-- A source starts: TUNE CONFIG and the old record are taken, TUNE SELECT is placed, first BP is searched (R135). -/
def beginSource (v : VoiceId) (src : Source) (s : State) : State :=
  let c := s.tuner.cfg
  beginBreakpoint c.firstBp
    { voice := v, source := src, s0 := c.s0, tolShift := c.tolShift, first := c.firstBp, last := c.lastBp, old := s.cal v src,
      found := [], bp := c.firstBp, w := 0, t := 0, code := 0, step := 0, limit := false, verifying := false }
    (placeTune (.select v src) s)

/-- The next source of the voice in scope, or the end of its tuning (R135, R138). -/
def nextSource (v : VoiceId) (src : Source) (s : State) : State :=
  match firstInScope s (sourcesAfter src) with
  | some x => beginSource v x s
  | none => endVoice v s

/-- The record of a failed source (R137). -/
def failRecord (j : SourceJob) (x : LastResult) (s : State) : State :=
  match x with
  | .noSignal => voidBySignal j.voice j.source s
  | _ => setLastResult j.voice j.source x s

/-- A source fails, and the Tuner goes on to the next (R137). -/
def failSource (j : SourceJob) (x : LastResult) (s : State) : State :=
  nextSource j.voice j.source
    (modRun (fun r => { r with failed := r.failed + 1 }) (bump .sourcesFailed (failRecord j x s)))

/-- Codes below the first, each lower by delta and not below 0, in front of a list (R136). -/
def extendDown (delta : Int) : Nat → Int → List Int → List Int
  | 0, _, l => l
  | n + 1, x, l => extendDown delta n (max 0 (x - delta)) (max 0 (x - delta) :: l)

/-- Codes above the last, each higher by delta and not above 65535 (R136). -/
def extendUp (delta : Int) : Nat → Int → List Int
  | 0, _ => []
  | n + 1, x => min 65535 (x + delta) :: extendUp delta n (min 65535 (x + delta))

/-- The 17 codes from the new codes of first BP to last BP (R136 step 1). -/
def SourceJob.allCodes (j : SourceJob) : List Int :=
  let low := j.newCode (j.first + 1) - j.newCode j.first
  let high := j.newCode j.last - j.newCode (j.last - 1)
  extendDown low j.first (j.newCode j.first) (j.found ++ extendUp high (16 - j.last) (j.newCode j.last))

/-- Each code greater than the one before (R136 step 2). -/
def strictlyRising : List Int → Bool
  | a :: b :: l => a < b && strictlyRising (b :: l)
  | _ => true

/-- The record of a source that passed (R136 step 3). -/
def SourceJob.record (j : SourceJob) : CalRecord :=
  { valid := true, last := .pass, codes := Vector.ofFn (fun i : Fin 17 => BitVec.ofInt 16 (j.allCodes[i.val]?.getD 0)) }

/-- A source whose breakpoints have all passed (R136). -/
def completeSource (j : SourceJob) (s : State) : State :=
  if strictlyRising j.found then
    nextSource j.voice j.source
      (modRun (fun r => { r with passed := r.passed + 1 })
        (bump .sourcesTuned (replaceRecord j.voice j.source j.record s)))
  else failSource j .notMonotonic s

/-- A breakpoint passes with its code (R134, R135). -/
def passBreakpoint (j : SourceJob) (s : State) : State :=
  let k := { j with found := j.found ++ [j.code] }
  if j.bp < j.last then beginBreakpoint (j.bp + 1) k s else completeSource k s

/-- One adjustment by the step, up or down (R133 steps 2 to 4). -/
def adjust (up : Bool) (j : SourceJob) (s : State) : State :=
  let raw := if up then j.code + j.step else j.code - j.step
  let k := { j with code := clampInt 0 65535 raw, limit := j.limit || raw < 0 || 65535 < raw }
  if j.step ≤ 1 then measureJob { k with verifying := true } s else measureJob { k with step := j.step / 2 } s

/-- The outcome of an adjusting measurement (R133). -/
def adjusted (j : SourceJob) (o : MeasOutcome) (s : State) : State :=
  match o with
  | .noSignal => failSource j .noSignal s
  | .saturated => adjust true j s
  | .count m => if m = j.t then passBreakpoint j s else adjust (j.t < m) j s

/-- The result of a verify that fails (R134). -/
def verifyResult (j : SourceJob) : LastResult :=
  if j.limit || j.code = 0 || j.code = 65535 then .outOfRange else .tolerance

/-- The outcome of a verify measurement (R134). -/
def verified (j : SourceJob) (o : MeasOutcome) (s : State) : State :=
  match o with
  | .noSignal => failSource j .noSignal s
  | .saturated => failSource j (verifyResult j) s
  | .count m =>
    if absInt ((m : Int) - j.t) ≤ j.t / 2 ^ j.tolShift then passBreakpoint j s else failSource j (verifyResult j) s

/-! ## Tune runs (R139 to R143) -/

/-- The measurement of a drift check is abandoned: TUNE RELEASE is placed and the voice returned (R143). -/
def abandonCheck (s : State) : State :=
  match s.tuner.check with
  | some c =>
    let s1 := placeTune .release (stopMeasure s)
    settleVoice c.voice (s1.withTuner { s1.tuner with check := none })
  | none => s

/-- A run starts; a FORCED run claims the voices of its scope (R139, R140). R48 and R140 name no order among them, which orders the DAMP
commands: the claims go in voice order (log entry 12, DESIGN CHOICE). -/
def startRun (origin : RunOrigin) (mode : RunMode) (voices : VoiceSet) (sources : BitVec 3) (s : State) : State :=
  let s1 := s.withTuner { s.tuner with
    run := some { origin, mode, voices, sources, notDone := voices, current := none, passed := 0, failed := 0, aborted := false }
    retuneDue := false }
  match mode with
  | .forced => forEach (members voices) forceClaim s1
  | .background => s1

/-- The source under measurement, if any, ends with ABORTED (R137, R143 step 1). -/
def abortSource (s : State) : State :=
  match s.tuner.job with
  | some j => setJob none (setLastResult j.voice j.source .aborted (stopMeasure s))
  | none => stopMeasure s

/-- The voice that was being measured is released and reported (R143 step 2). -/
def releaseMeasured (j : Option SourceJob) (s : State) : State :=
  match j with
  | some j => voiceTunedNotice j.voice (placeTune .release s)
  | none => s

/-- The voices of a set that are in TUNING. -/
def tuningOf (s : State) (set : VoiceSet) : List VoiceId := (members set).filter (fun v => (s.voice v).state = .tuning)

/-- Every DAMPING voice with pending tuner loses it (R143 step 4). -/
def cancelTuners (s : State) : State :=
  forEach (allVoices.filter (fun v => (s.voice v).state = .damping && (s.voice v).pending = .tuner)) cancelPending s

/-- TUNE ABORT of a run (R143): the run record goes first, so that the Tuner declines the voices it returns. -/
def abortRun (s : State) : State :=
  match s.tuner.run with
  | some r =>
    let s1 := abortSource s
    let s2 := releaseMeasured s.tuner.job (s1.withTuner { s1.tuner with run := none })
    offerNotice (.tuneDone r.origin r.passed r.failed true) (cancelTuners (forEach (tuningOf s2 r.notDone) settleVoice s2))
  | none => s

/-- VOICE TUNED for a voice that was being measured. -/
def reportMeasured (j : Option SourceJob) (s : State) : State :=
  match j with
  | some j => voiceTunedNotice j.voice s
  | none => s

/-- TUNE DONE for a run that has been aborted. -/
def reportAborted (r : Option Run) (s : State) : State :=
  match r with
  | some r => offerNotice (.tuneDone r.origin r.passed r.failed true) s
  | none => s

/-- RESET VOICES as it aborts a run and a drift check (R143, R147): the notices of R143; the voices stay for the steps of R50, and no
TUNE RELEASE is placed. -/
def abortForReset (s : State) : State :=
  let s1 := reportAborted s.tuner.run (reportMeasured s.tuner.job (abortSource s))
  s1.withTuner { s1.tuner with run := none, check := none, selection := none, retuneDue := false }

/-- The next voice of a BACKGROUND run: the one an offer has claimed, else the first in the free queue, else the lowest-numbered
BENCHED one (R141). -/
def backgroundVoice (s : State) (r : Run) : Option VoiceId :=
  match r.current, s.alloc.freeQueue.find? (fun v => r.notDone.getLsbD v.val) with
  | some v, _ => some v
  | none, some v => some v
  | none, none => (members r.notDone).find? (fun v => (s.voice v).state = .benched)

/-- The next voice of a run (R140, R141). -/
def nextVoice (s : State) (r : Run) : Option VoiceId :=
  match r.mode with
  | .forced => (tuningOf s r.notDone).head?
  | .background => backgroundVoice s r

/-- A voice not yet in TUNING is claimed (R47). -/
def claimFree (v : VoiceId) (s : State) : State := if (s.voice v).state = .tuning then s else enterTuning v s

/-- The Tuner takes a voice and begins its first source (R135, R140, R141). -/
def beginVoice (v : VoiceId) (s : State) : State :=
  match firstInScope s sourceOrder with
  | some src => beginSource v src (modRun (fun r => { r with current := some v }) (claimFree v s))
  | none => s

/-! ## The drift watch (R144, R145) -/

/-- The ticks of a drift period; the timer does not run while it is off (R144). -/
def driftTicks (period : Nat) : Option Nat := if period = 0 then none else some (ms (1000 * period))

/-- The voices in cyclic order after one (R144). -/
def voicesAfter (v : VoiceId) : List VoiceId := (List.range 16).map (fun i => ⟨(v.val + 1 + i) % 16, by omega⟩)

/-- The voice to check: IDLE with a VALID OSC A record (R144). -/
def driftVoice (s : State) : Option VoiceId :=
  (voicesAfter s.tuner.lastChecked).find? (fun v => (s.voice v).state = .idle && (s.cal v .oscA).valid)

/-- A drift check starts (R144 steps 1 to 3). -/
def beginCheck (v : VoiceId) (s : State) : State :=
  let b := (s.tuner.cfg.firstBp + s.tuner.cfg.lastBp) / 2
  let c : DriftCheck := { voice := v, bp := b, w := (targetAt s b).w, t := (targetAt s b).t, shift := s.tuner.cfg.driftShift }
  let s1 := placeTune (.select v .oscA) (enterTuning v s)
  beginMeasure v .oscA (BitVec.ofInt 16 (codeAt (s.cal v .oscA).codes b)) c.w (s1.withTuner { s1.tuner with check := some c })

/-- The error of a check (R144 step 4); none for NO SIGNAL. -/
def DriftCheck.error (c : DriftCheck) : MeasOutcome → Option Nat
  | .count m => some (absInt ((m : Int) - c.t)).toNat
  | .saturated => some (Config.countLimit - c.t)
  | .noSignal => none

/-- Sets a voice's drift count. -/
def setDriftCount (v : VoiceId) (n : Nat) (s : State) : State :=
  s.withTuner { s.tuner with driftCount := s.tuner.driftCount.set v n }

/-- A voice joins the retune set, which may start a retune run (R145, R146). -/
def joinRetune (v : VoiceId) (s : State) : State :=
  if s.tuner.retuneSet.getLsbD v.val then s
  else retuneMoment (s.withTuner { s.tuner with retuneSet := insertVoice s.tuner.retuneSet v })

/-- A check that found an error is judged (R145). -/
def judgeDrift (c : DriftCheck) (err : Nat) (s : State) : State :=
  if err ≤ c.t / 2 ^ c.shift then setDriftCount c.voice 0 s
  else if s.tuner.driftCount[c.voice] + 1 < s.tuner.cfg.confirm then
    setDriftCount c.voice (s.tuner.driftCount[c.voice] + 1) s
  else joinRetune c.voice (bump .driftAlarms (offerNotice (.drift c.voice c.bp err) (setDriftCount c.voice 0 s)))

/-- A check ends: TUNE RELEASE, the voice returned, the last voice checked (R144 step 5). -/
def returnChecked (c : DriftCheck) (s : State) : State :=
  let s1 := placeTune .release s
  let s2 := settleVoice c.voice (s1.withTuner { s1.tuner with check := none })
  s2.withTuner { s2.tuner with lastChecked := c.voice }

/-- The outcome of a drift check (R144, R145). -/
def endCheck (c : DriftCheck) (o : MeasOutcome) (s : State) : State :=
  match c.error o with
  | some err => judgeDrift c err (returnChecked c s)
  | none => returnChecked c (voidBySignal c.voice .oscA s)

/-- The outcome of a source search. -/
def endJobMeasure (j : SourceJob) (o : MeasOutcome) (s : State) : State :=
  if j.verifying then verified j o s else adjusted j o s

/-- A measurement is DONE and the Tuner takes its outcome (R130, R131). -/
def takeOutcome (o : MeasOutcome) (s : State) : State :=
  let s1 := stopMeasure s
  match s.tuner.job, s.tuner.check with
  | some j, _ => endJobMeasure j o s1
  | none, some c => endCheck c o s1
  | none, none => s1

/-! ## Writes of the Tuner's tables -/

/-- The drift period timer at a write (R144). -/
def driftAtWrite (old new : Nat) (timer : Option Nat) : Option Nat :=
  if new = 0 then none else if old = 0 then driftTicks new else timer

/-- An accepted TUNE CONFIG write (R129, R144, R146): while auto retune is off no retune run is due, and turning it on is a moment of
R146. -/
def writeTuneConfig (c : TuneConfig) (s : State) : State :=
  let s1 := s.withTuner { s.tuner with
    cfg := c, driftTimer := driftAtWrite s.tuner.cfg.driftPeriod c.driftPeriod s.tuner.driftTimer
    retuneDue := s.tuner.retuneDue && c.autoRetune }
  if c.autoRetune && !s.tuner.cfg.autoRetune then retuneMoment s1 else s1

/-- An accepted TARGET write of one entry (R128). -/
def writeTarget (i : Fin 17) (t : Target) (s : State) : State :=
  s.withTuner { s.tuner with target := s.tuner.target.set i t }

/-- The voice and source of a CALIBRATION entry (R125). -/
def calVoice (i : Fin 48) : VoiceId := ⟨i.val / 3, by omega⟩
def calSource (i : Fin 48) : Source :=
  match i.val % 3 with
  | 0 => .oscA
  | 1 => .oscB
  | _ => .filter

/-- An accepted CALIBRATION write of one entry (R127). -/
def writeCal (i : Fin 48) (r : CalRecord) (s : State) : State := replaceRecord (calVoice i) (calSource i) r s

/-! ## Meanings -/

/-- TUNER_TAKE_VOICE (R140, R141): no voice is being measured, and the Tuner takes the next of the run. -/
def execTunerTakeVoice (s : State) : Host.Outcome State Fault Refusal :=
  act (fun s =>
    match s.tuner.run, s.tuner.job with
    | some r, none =>
      match nextVoice s r with
      | some v => beginVoice v s
      | none => s
    | _, _ => s) s

/-- MEASUREMENT_SETTLE_START (R131): the card holds the selection and the code. -/
def execMeasurementSettleStart (s : State) : Host.Outcome State Fault Refusal :=
  act (fun s =>
    match s.tuner.meas, s.tuner.counter, s.tuner.settle with
    | some m, .idle, none =>
      if settingHeld s m then s.withTuner { s.tuner with settle := some m.settleTicks } else s
    | _, _, _ => s) s

/-- TUNE_SETTLE_EXPIRY (R130, R131): the counter is ARMED. -/
def execTuneSettleExpiry (s : State) : Host.Outcome State Fault Refusal :=
  act (fun s =>
    match s.tuner.meas, s.tuner.settle with
    | some m, some _ => s.withTuner { s.tuner with settle := none, counter := .armed, noSignal := some m.timeoutTicks }
    | _, _ => s) s

/-- A rising edge while ARMED (R130). -/
def startCount (m : Measurement) (s : State) : State :=
  s.withTuner { s.tuner with counter := .counting, count := 0, edges := 0, noSignal := some m.timeoutTicks }

/-- A rising edge while COUNTING, with the count brought up to it (R130). -/
def countEdge (m : Measurement) (n : Nat) (s : State) : State :=
  if Config.countLimit ≤ n then takeOutcome .saturated s
  else if m.w ≤ s.tuner.edges + 1 then takeOutcome (.count n) s
  else s.withTuner { s.tuner with count := n, edges := s.tuner.edges + 1, noSignal := some m.timeoutTicks }

/-- TUNE_EDGE (R130): a rising edge on TUNE, `ticks` clock ticks after the count was last brought up (log entry 11). -/
def execTuneEdge (ticks : Nat) (s : State) : Host.Outcome State Fault Refusal :=
  act (fun s =>
    match s.tuner.meas, s.tuner.counter with
    | some m, .armed => startCount m s
    | some m, .counting => countEdge m (s.tuner.count + ticks) s
    | _, _ => s) s

/-- COUNT_SATURATED (R130): the count reaches 16,777,215. While COUNTING the command ends the count as SATURATED whatever count State
holds (log entry 2, DESIGN CHOICE). -/
def execCountSaturated (s : State) : Host.Outcome State Fault Refusal :=
  act (fun s =>
    match s.tuner.counter with
    | .counting => takeOutcome .saturated s
    | _ => s) s

/-- NO_SIGNAL_TIMEOUT (R130): the no-signal timer expires. -/
def execNoSignalTimeout (s : State) : Host.Outcome State Fault Refusal :=
  act (fun s =>
    match s.tuner.counter with
    | .armed | .counting => takeOutcome .noSignal s
    | _ => s) s

/-- The check an expiry of the drift period starts: none while a run is active or a check in progress (R144). -/
def lookForDrift (s : State) : State :=
  match s.tuner.run, s.tuner.check, driftVoice s with
  | none, none, some v => beginCheck v s
  | _, _, _ => s

/-- DRIFT_PERIOD_EXPIRY (R144). -/
def execDriftPeriodExpiry (s : State) : Host.Outcome State Fault Refusal :=
  act (fun s =>
    match s.tuner.driftTimer with
    | some _ => lookForDrift (s.withTuner { s.tuner with driftTimer := driftTicks s.tuner.cfg.driftPeriod })
    | none => s) s

/-- RETUNE_RUN_START (R146): the retune run that is due while auto retune is on, over the retune set, which it empties. -/
def execRetuneRunStart (s : State) : Host.Outcome State Fault Refusal :=
  act (fun s =>
    if s.tuner.cfg.autoRetune && s.tuner.retuneDue && s.tuner.retuneSet ≠ 0 && s.tuner.run.isNone then
      let s1 := abandonCheck s
      startRun .drift .background s1.tuner.retuneSet 7 (s1.withTuner { s1.tuner with retuneSet := 0 })
    else s.withTuner { s.tuner with retuneDue := false }) s

end Sys2Proof.Machine
end

