-- ==== Sys2Proof/Machine/Startup.lean ====
section
/-! DEFINITION. Resets and start-up: power-on, the RESET pin, the FULL reset, the two loads and the entry into READY
(06_patch_store_and_recall.md 6.8 and 6.9, and the reset tables of every chapter). -/

namespace Sys2Proof.Machine

open Sys2Proof

/-! ## Resets (R20, R51, R74, R105, R119, R123, R147, R163, R176) -/

/-- A page is being written (R107): a reset may leave it mixed. -/
def pageInProgress (t : Store) : Bool :=
  match t.port with
  | .writing _ | .polling _ => true
  | _ => false

/-- Every block takes its power-on values; the serial memory keeps its contents but for a page under write (R107, R119, R123). -/
def resetAll (s : State) : State :=
  { State.reset with
    store := { Store.powerOn with mem := cutPage s.freeCount s.store, memFitted := s.store.memFitted }
    freeCount := if pageInProgress s.store then s.freeCount + 1 else s.freeCount
    pending := s.pending }

/-- The RESET pin is held: start-up begins at its release (R119, R198). -/
def holdReset (s : State) : State := { s.withStore { s.store with queue := [] } with inReset := true }

/-- The release of the RESET pin: the loads are queued and the outbound idle timer restarts (R119, R176). -/
def releaseReset (s : State) : State :=
  { (s.withStore { s.store with queue := Store.powerOn.queue }).withLink
      { s.link with idleTimer := some (ms 100) } with inReset := false }

/-- The frame on EVOUT carries the OK of a RESET FULL (R191). -/
def okOfFullReset (f : OutFrame) : Bool :=
  match f with
  | .response r => r.fullReset
  | _ => false

/-- POWER_ON (R119). -/
def execPowerOn (s : State) : Host.Outcome State Fault Refusal := .next (resetAll s)

/-- RESET_PIN (R119): the pin is asserted. -/
def execResetPin (s : State) : Host.Outcome State Fault Refusal := act (fun s => holdReset (resetAll s)) s

/-- RESET_RELEASE (R119). -/
def execResetRelease (s : State) : Host.Outcome State Fault Refusal :=
  .next (if s.inReset then releaseReset s else s)

/-- FULL_RESET_BEGIN (R191): the last bit of the OK frame of a RESET FULL has left EVOUT. -/
def execFullResetBegin (s : State) : Host.Outcome State Fault Refusal :=
  act (fun s =>
    match s.link.line with
    | some f => if okOfFullReset f then resetAll s else s
    | none => s) s

/-- OUTBOUND_FRAME_END (R170): the line becomes free; the end of the OK of a RESET FULL begins the reset (R191). -/
def execOutboundFrameEnd (s : State) : Host.Outcome State Fault Refusal :=
  act (fun s =>
    match s.link.line with
    | some f => if okOfFullReset f then resetAll s else endOutbound s
    | none => s) s

/-! ## SETUP LOAD (R120) -/

/-- What a good setup block holds: each table, or none where it fails its checks (R120, R196). -/
structure SetupRead where
  zones : Option (Vector Zone 8)
  parts : Option (Vector PartCfg 4)
  desc : Option (Vector Descriptor 48)
  scale : Option (Vector Int 48)
  target : Option (Vector Target 17)
  cfg : Option TuneConfig
  scanMap : Option (Vector (Option ControlId) 96)
  controls : Option (Vector ControlCfg 96)
  options : Option SetupOptions

/-- The tables of a setup block (R196), each checked as a write of it (R120). -/
def readSetup (b : List Byte) : SetupRead :=
  { zones := table? 8 (decodeRun (fun _ => zone?) 8 0 (slice 0x002 64 b))
    parts := table? 4 (decodeRun (fun _ => part?) 12 0 (slice 0x042 48 b))
    desc := table? 48 (descriptorRun 0 (slice 0x072 288 b))
    scale := table? 48 (decodeRun (fun _ => scale?) 2 0 (slice 0x192 96 b))
    target := table? 17 (decodeRun (fun _ => target?) 4 0 (slice 0x1F2 68 b))
    cfg := tuneConfig? (slice 0x236 12 b)
    scanMap := table? 96 (scanMapRun 0 (slice 0x242 192 b))
    controls := table? 96 (controlRun 0 (slice 0x302 768 b))
    options := options? (slice 0x602 14 b) }

/-- The bit of a table left at its defaults (R194: bit n for table number n). -/
def defaultBit {α : Type} (n : Nat) (x : Option α) : BitVec 24 := if x.isSome then 0 else 1#24 <<< n

/-- The list of tables that kept their defaults (R120, R194, R195). -/
def SetupRead.failed (r : SetupRead) : BitVec 24 :=
  defaultBit 0 r.zones ||| defaultBit 1 r.parts ||| defaultBit 5 r.scale ||| defaultBit 8 r.desc ||| defaultBit 10 r.scanMap |||
  defaultBit 11 r.controls ||| defaultBit 13 r.options ||| defaultBit 15 r.target ||| defaultBit 16 r.cfg

/-- The tables that passed take the block's content; the others keep their defaults (R120). -/
def loadTables (r : SetupRead) (s : State) : State :=
  { s with
    router := { s.router with zones := r.zones.getD s.router.zones, parts := r.parts.getD s.router.parts }
    pitch := { s.pitch with scale := r.scale.getD s.pitch.scale }
    params := { s.params with desc := r.desc.getD s.params.desc }
    panel := { s.panel with scanMap := r.scanMap.getD s.panel.scanMap, controls := r.controls.getD s.panel.controls }
    store := { s.store with options := r.options.getD s.store.options }
    tuner := { s.tuner with target := r.target.getD s.tuner.target, cfg := r.cfg.getD s.tuner.cfg } }

/-- Each INIT value is clamped to its descriptor; not a write (R78). -/
def clampInit (s : State) : State :=
  s.withParams { s.params with
    values := mapVec (fun vs => Vector.ofFn (fun n : ParamId => s.params.desc[n].clamp vs[n].toNat)) s.params.values }

/-- The result of the load is kept for START DONE (R120, R122). -/
def setSetupResult (r : SetupResult) (tables : BitVec 24) (s : State) : State :=
  s.withStore { s.store with setupResult := r, defaultTables := tables }

/-- A setup block is taken, or left (R120). -/
def loadSetup (b : List Byte) (s : State) : State :=
  if blockGood 0x5C#8 b then
    setSetupResult .loaded (readSetup b).failed (clampInit (loadTables (readSetup b) s))
  else setSetupResult .defaults allSetupTables s

/-- The phase moves on (R119 to R122). -/
def setPhase (p : Phase) (s : State) : State := s.withReq { s.req with phase := p }

/-- SETUP_LOAD (R120): the read of the setup block ends, and the phase becomes CAL. -/
def execSetupLoad (s : State) : Host.Outcome State Fault Refusal :=
  act (fun s =>
    match headOp s, s.store.port with
    | some .setupLoad, .reading => setPhase .cal (leaveStore (loadSetup (s.store.readRun 0 2048) s))
    | _, _ => s) s

/-! ## CAL LOAD (R121) -/

/-- The 48 records of a calibration block (R121, R196); none for a bad one. -/
def readCal (b : List Byte) : Option (Vector CalRecord 48) :=
  if blockGood 0x5D#8 b then table? 48 (decodeRun (fun _ => calLoaded?) 36 0 (slice 2 1728 b)) else none

/-- Each record is replaced; no drift count and no retune set outlasts it (R121, R126). -/
def loadRecords (x : Option (Vector CalRecord 48)) (s : State) : State :=
  match x with
  | some cal => s.withTuner { s.tuner with cal, driftCount := .replicate 16 0, retuneSet := 0 }
  | none => s

/-- The calibration result (R121). -/
def calResultOf (loadCal : Bool) (x : Option (Vector CalRecord 48)) : CalResult :=
  if loadCal then (if x.isSome then .loaded else .fault) else .none

/-- A voice leaves the CAL phase IDLE, or BENCHED by its records, without a notice (R51, R121). -/
def placeAtStart (v : VoiceId) (s : State) : State :=
  if s.oscValid v then (enterIdle v s).modVoice v (fun r => { r with notified := false })
  else (setBenchReason v s).modVoice v (fun r => { r with notified := true })

/-- The calibration block is loaded and the voices placed (R121). -/
def loadCalibration (b : List Byte) (s : State) : State :=
  let x := if s.store.options.loadCal then readCal b else none
  let s1 := forEach allVoices (fun v s => placeAtStart v (followFilter v s)) (loadRecords x s)
  s1.withStore { s1.store with calResult := calResultOf s.store.options.loadCal x }

/-! ## The entry into READY (R122) -/

/-- A start-up recall of a part (R122 step 2): the queue is empty after the loads, so there is room. -/
def startRecall (p : PartId) (s : State) : State :=
  match s.store.options.startRecall[p], storeRoom s with
  | some slot, true => joinStore (.recallRead p slot .now) false s
  | _, _ => s

/-- The start-up recalls, part 0 first (R122 step 2). -/
def startRecalls (s : State) : State := forEach allParts startRecall s

/-- The voice scope of the start-up run (R122 step 3). -/
def startScope (s : State) : VoiceSet :=
  match s.store.options.tuneAtStart with
  | .none => 0
  | .voidOnly =>
    voiceMask (fun v => !((s.cal v .oscA).valid && (s.cal v .oscB).valid && (s.cal v .filter).valid))
  | .all => 0xFFFF#16

/-- The start-up run, if any voice is in its scope (R122 step 3). -/
def startTuning (s : State) : State :=
  if startScope s = 0 then s else startRun .startUp .forced (startScope s) 7 s

/-- The timers that run from READY on (R99, R122 step 4, R144, R168). -/
def startTimers (s : State) : State :=
  { startScanTimer s with
    link := { s.link with silence := .running (ms 300) }
    pitch := { s.pitch with glideTimer := some (ms 1) }
    tuner := { s.tuner with driftTimer := driftTicks s.tuner.cfg.driftPeriod } }

/-- The entry into READY (R122). -/
def enterReady (s : State) : State :=
  startTimers (startTuning (startRecalls
    (offerNotice (.startDone s.store.setupResult s.store.defaultTables s.store.calResult) (setPhase .ready s))))

/-- CAL_LOAD (R121): the read of the calibration block ends, or is not made; the phase becomes READY. -/
def execCalLoad (s : State) : Host.Outcome State Fault Refusal :=
  act (fun s =>
    match headOp s with
    | some .calLoad =>
      if s.store.port = .reading ∨ s.store.options.loadCal = false then
        enterReady (leaveStore (loadCalibration (s.store.readRun 0x800 2048) s))
      else s
    | _ => s) s

end Sys2Proof.Machine
end

