-- ==== Sys2Proof/Machine/Tables.lean ====
section
/-! DEFINITION. The seventeen tables as the requests read, write and merge them (R181 to R184, R195). -/

namespace Sys2Proof.Machine

open Sys2Proof

/-- The tables, in the order of R181. -/
inductive Table where
  | zone | part | partState | held | voice | scale | param | name | descriptor | pickup | scanMap | control | controlState
  | options | calibration | target | tuneConfig
  deriving DecidableEq, Repr

/-- The table of a table number (R195). -/
def tableOf (n : Byte) : Option Table :=
  match n.toNat with
  | 0 => some .zone | 1 => some .part | 2 => some .partState | 3 => some .held | 4 => some .voice | 5 => some .scale
  | 6 => some .param | 7 => some .name | 8 => some .descriptor | 9 => some .pickup | 10 => some .scanMap | 11 => some .control
  | 12 => some .controlState | 13 => some .options | 14 => some .calibration | 15 => some .target | 16 => some .tuneConfig
  | _ => none

/-- The number of entries (R181). -/
def Table.count : Table → Nat
  | .zone => 8 | .part => 4 | .partState => 4 | .held => 32 | .voice => 16 | .scale => 48 | .param => 192 | .name => 4
  | .descriptor => 48 | .pickup => 32 | .scanMap => 96 | .control => 96 | .controlState => 96 | .options => 1
  | .calibration => 48 | .target => 17 | .tuneConfig => 1

/-- The bytes of an entry (R195). -/
def Table.size : Table → Nat
  | .zone => 8 | .part => 12 | .partState => 12 | .held => 10 | .voice => 14 | .scale => 2 | .param => 2 | .name => 12
  | .descriptor => 6 | .pickup => 6 | .scanMap => 2 | .control => 8 | .controlState => 4 | .options => 14
  | .calibration => 36 | .target => 4 | .tuneConfig => 12

/-- The read-only tables (R181). -/
def Table.readOnly : Table → Bool
  | .partState | .held | .voice | .pickup | .controlState => true
  | _ => false

/-! ## Reading (R182) -/

/-- The part and parameter of a PARAM entry: entry 48 × p + n (R76). -/
def paramPart (i : Fin 192) : PartId := ⟨i.val / 48, by omega⟩
def paramOf (i : Fin 192) : ParamId := ⟨i.val % 48, by omega⟩

/-- The bytes of an entry, nothing beyond the table (R195). -/
def entryBytes {n : Nat} (f : Fin n → List Byte) (i : Nat) : List Byte :=
  match fin? i n with
  | some k => f k
  | none => []

/-- Entry i of a table as it stands (R195). -/
def readEntry (s : State) (t : Table) (i : Nat) : List Byte :=
  match t with
  | .zone => entryBytes (fun k : Fin 8 => zoneBytes s.router.zones[k]) i
  | .part => entryBytes (fun p : PartId => partBytes (s.part p)) i
  | .partState => entryBytes (partStateBytes s) i
  | .held => entryBytes (heldBytes s) i
  | .voice => entryBytes (voiceBytes s) i
  | .scale => entryBytes (fun k : Fin 48 => intBytes s.pitch.scale[k]) i
  | .param => entryBytes (fun k : Fin 192 => bytesOfWord (s.params.values[paramPart k][paramOf k].setWidth 16)) i
  | .name => entryBytes (fun p : PartId => s.params.names[p].toList) i
  | .descriptor => entryBytes (fun n : ParamId => descriptorBytes s.params.desc[n]) i
  | .pickup => entryBytes (fun k : Fin 32 => pickupBytes s.params.pickup[k.val]?) i
  | .scanMap => entryBytes (fun k : Fin 96 => [optByte s.panel.scanMap[k], 0]) i
  | .control => entryBytes (fun c : ControlId => controlBytes s.panel.controls[c]) i
  | .controlState => entryBytes (fun c : ControlId => controlStateBytes s.panel.states[c]) i
  | .options => entryBytes (fun _ : Fin 1 => optionsBytes s.store.options) i
  | .calibration => entryBytes (fun k : Fin 48 => calBytes s.tuner.cal[k]) i
  | .target => entryBytes (fun k : Fin 17 => targetBytes s.tuner.target[k]) i
  | .tuneConfig => entryBytes (fun _ : Fin 1 => tuneConfigBytes s.tuner.cfg) i

/-- Entries in index order. -/
def readEntries (s : State) (t : Table) (first n : Nat) : List Byte :=
  (List.range n).flatMap (fun i => readEntry s t (first + i))

/-- The number of entries a TABLE READ returns: as many as fit for a count of 0, else exactly the count; none is RANGE (R182). -/
def readCount (t : Table) (first count : Nat) : Option Nat :=
  if t.count ≤ first then none
  else if count = 0 then some (min (36 / t.size) (t.count - first))
  else if count * t.size ≤ 36 ∧ first + count ≤ t.count then some count
  else none

/-! ## Writing (R183) -/

/-- Entries written one after another, in index order. -/
def writeFrom {α : Type} {n : Nat} (f : Fin n → α → State → State) : Nat → List α → State → State
  | _, [], s => s
  | i, x :: xs, s =>
    writeFrom f (i + 1) xs (match fin? i n with
      | some k => f k x s
      | none => s)

/-- Writes a decoded run; none is RANGE. -/
def writeRunOf {α : Type} {n : Nat} (f : Fin n → α → State → State) (first : Nat) (xs : Option (List α)) (s : State) : Option State :=
  xs.map (fun l => writeFrom f first l s)

def writeZone (k : Fin 8) (z : Zone) (s : State) : State :=
  s.withRouter { s.router with zones := s.router.zones.set k z }

def storeScale (k : Fin 48) (x : Int) (s : State) : State := s.withPitch { s.pitch with scale := s.pitch.scale.set k x }

/-- The sounding voices of the parts that select a written scale are computed again (R55). -/
def recomputeScales (first n : Nat) (s : State) : State :=
  forEach (allParts.filter (fun p => first < 12 * ((s.part p).scale.val + 1) && 12 * (s.part p).scale.val < first + n)) computePart s

/-- An accepted SCALE write (R55). -/
def writeScales (first : Nat) (xs : Option (List Int)) (s : State) : Option State :=
  xs.map (fun l => recomputeScales first l.length (writeFrom storeScale first l s))

def writeOptions (_ : Fin 1) (o : SetupOptions) (s : State) : State := s.withStore { s.store with options := o }

/-- The entries of a run checked by their owner and written; none is RANGE (R183 step 3). -/
def writeEntries (t : Table) (first : Nat) (data : List Byte) (s : State) : Option State :=
  match t with
  | .zone => writeRunOf writeZone first (decodeRun (fun _ => zone?) 8 first data) s
  | .part => writeRunOf writePart first (decodeRun (fun _ => part?) 12 first data) s
  | .scale => writeScales first (decodeRun (fun _ => scale?) 2 first data) s
  | .param => writeRunOf (fun k v => writeParam (paramPart k) (paramOf k) v) first (decodeRun (fun _ => param?) 2 first data) s
  | .name => writeRunOf writeName first (decodeRun (fun _ => name?) 12 first data) s
  | .descriptor => writeRunOf writeDescriptor first (descriptorRun first data) s
  | .scanMap => writeRunOf writeScanEntry first (scanMapRun first data) s
  | .control => writeRunOf writeControl first (controlRun first data) s
  | .options => writeRunOf writeOptions first (decodeRun (fun _ => options?) 14 first data) s
  | .calibration => writeRunOf writeCal first (decodeRun (fun _ => cal?) 36 first data) s
  | .target => writeRunOf writeTarget first (decodeRun (fun _ => target?) 4 first data) s
  | .tuneConfig => writeRunOf (fun _ : Fin 1 => writeTuneConfig) first (decodeRun (fun _ => tuneConfig?) 12 first data) s
  | .partState | .held | .voice | .pickup | .controlState => none

/-- A CALIBRATION write names a record of a voice in TUNING (R127). -/
def touchesTuning (s : State) (t : Table) (first n : Nat) : Bool :=
  t = .calibration &&
    (List.finRange 48).any (fun i => first ≤ i.val && i.val < first + n && (s.voice (calVoice i)).state = .tuning)

/-- A write of entry data, checked whole in the order of R178 and R183: the state after it, or the result that refuses it. -/
def writeTable (t : Table) (first : Nat) (data : List Byte) (s : State) : Except ResultCode State :=
  if t.readOnly then .error .readOnly
  else if data.length = 0 ∨ data.length % t.size ≠ 0 ∨ t.count < first + data.length / t.size then .error .range
  else
    match writeEntries t first data s with
    | none => .error .range
    | some s1 => if touchesTuning s t first (data.length / t.size) then .error .state else .ok s1

/-! ## Merging (R184) -/

/-- new word = (old word AND keep) OR value (R184). -/
def mergeWord (keep value old : Word) : Word := (old &&& keep) ||| value

/-- Word k of an entry merged: bytes 2k and 2k + 1, the even byte high (R192). -/
def mergeBytes (k : Nat) (keep value : Word) (entry : List Byte) : List Byte :=
  entry.take (2 * k) ++ bytesOfWord (mergeWord keep value (wordOfBytes (entry.getD (2 * k) 0) (entry.getD (2 * k + 1) 0))) ++
    entry.drop (2 * k + 2)

/-- A merge of one word of one entry: a write of the entry with the new word (R184). -/
def mergeTable (t : Table) (i k : Nat) (keep value : Word) (s : State) : Except ResultCode State :=
  if t.readOnly then .error .readOnly
  else if t.count ≤ i ∨ t.size ≤ 2 * k then .error .range
  else writeTable t i (mergeBytes k keep value (readEntry s t i)) s

end Sys2Proof.Machine
end

