-- ==== Sys2Proof/Machine/VoiceLink.lean ====
section
/-! DEFINITION. The Voice Link Transmitter: dirty slots, the scheduler, the end of a frame with its reports, and the delivery marks
(08_voice_link.md). -/

namespace Sys2Proof.Machine

open Sys2Proof

/-! ## Slots and positions (R149, R158) -/

/-- The current value of a slot. -/
def slotValue (s : State) (v : VoiceId) (k : SlotId) : Word := s.pitch.slots[v][k]

/-- A slot is dirty: its entry is unknown, or its current value differs from its sent value (R149). -/
def dirty (s : State) (v : VoiceId) (k : SlotId) : Bool := s.vlink.sent[v][k] ≠ some (slotValue s v k)

/-- The voice of a position. -/
def posVoice (x : Fin 512) : VoiceId := ⟨x.val / 32, by omega⟩

/-- The slot of a position. -/
def posSlot (x : Fin 512) : SlotId := ⟨x.val % 32, by omega⟩

/-- The position i places after another, cyclic (R159). -/
def posAfter (x : Fin 512) (i : Nat) : Fin 512 := ⟨(x.val + i) % 512, by omega⟩

/-- The slot at a position is dirty. -/
def dirtyAt (s : State) (x : Fin 512) : Bool := dirty s (posVoice x) (posSlot x)

/-- The first dirty position in scan order, from the one after the pointer to the pointer itself (R159). -/
def scanNext (s : State) : Option (Fin 512) :=
  ((List.range 512).map (fun i => posAfter s.vlink.scanPtr (i + 1))).find? (dirtyAt s)

/-- The lowest-numbered dirty slot of slots 0–3 of a voice (R154). -/
def dirtyNoteSlot (s : State) (v : VoiceId) : Option SlotId :=
  ([0, 1, 2, 3] : List SlotId).find? (dirty s v)

/-! ## The scheduler (R153, R154) -/

/-- A SLOT WRITE of a slot with its current value (R148). -/
def slotFrame (s : State) (v : VoiceId) (k : SlotId) : VlFrame := .slotWrite v k (slotValue s v k)

/-- The frame of the head of the voice command queue, if there is one (R154). -/
def headFrame (s : State) : Option VlFrame :=
  match s.vlink.queue with
  | [] => none
  | v :: _ =>
    match s.vlink.lists[v] with
    | [] => none
    | c :: _ =>
      match c.cmd, dirtyNoteSlot s v with
      | .on, some k => some (slotFrame s v k)
      | x, _ => some (.gate v x)

/-- The frame of the mute request, the tune command latch or the command queue (R153 steps 1 to 3). -/
def urgentFrame (s : State) : Option VlFrame :=
  if s.vlink.mute then some .allMute
  else
    match s.vlink.latch with
    | some c => some (.tune c)
    | none => headFrame s

/-- Puts a frame on the line. -/
def putOnLine (f : VlFrame) (s : State) : State := s.withVlink { s.vlink with line := some ⟨f, .live⟩ }

/-- The dirty scan sends a position, and its pointer moves there (R159). -/
def sendScan (x : Fin 512) (s : State) : State :=
  putOnLine (slotFrame s (posVoice x) (posSlot x)) (s.withVlink { s.vlink with scanPtr := x })

/-- The refresh pointer moves on, and the slot there is sent again (R160). -/
def sendRefresh (s : State) : State :=
  let x := posAfter s.vlink.refreshPtr 1
  putOnLine (slotFrame s (posVoice x) (posSlot x)) (s.withVlink { s.vlink with refreshPtr := x })

/-- The choice of one frame (R153). -/
def chooseFrame (s : State) : State :=
  match urgentFrame s, scanNext s with
  | some f, _ => putOnLine f s
  | none, some x => sendScan x s
  | none, none => sendRefresh s

/-! ## The end of a frame (R148) -/

/-- Marks or unmarks a slot for delivery (R161). -/
def setSlotMark (m : Vector (BitVec 32) 16) (v : VoiceId) (k : SlotId) (b : Bool) : Vector (BitVec 32) 16 :=
  m.set v (if b then m[v] ||| (1#32 <<< k.val) else m[v] &&& ~~~ (1#32 <<< k.val))

/-- A SLOT WRITE has left: the sent value, and the slot's mark where the value is still the current one (R149, R161). A frame that
was on the line when RESET VOICES was taken completes normally (R162). -/
def slotSent (v : VoiceId) (k : SlotId) (x : Word) (s : State) : State :=
  s.withVlink { s.vlink with
    sent := s.vlink.sent.set v (s.vlink.sent[v].set k (some x))
    slotMarks := if x = slotValue s v k then setSlotMark s.vlink.slotMarks v k false else s.vlink.slotMarks }

/-- The first command of a voice's list is removed; a voice whose list is then empty leaves the queue (R154). -/
def popCommand (v : VoiceId) (k : VLink) : VLink :=
  { k with lists := k.lists.set v k.lists[v].tail
           queue := if k.lists[v].tail = [] then dropVoice v k.queue else k.queue }

/-- A gate frame has left: its command is removed, unless the list was changed under it (log entry 10), and a DAMP is reported
(R154, R155). The report of a DAMP that was on the line at RESET VOICES has no effect (R50 step 3, R162), also where its voice is
DAMPING again, a case in which R34 alone would start the timer: log entry 10, DESIGN CHOICE. -/
def gateSent (v : VoiceId) (c : GateCmd) (status : LineStatus) (s : State) : State :=
  let s1 := if status = .live then s.withVlink (popCommand v s.vlink) else s
  if c = .damp ∧ status ≠ .muted then dampReport v s1 else s1

/-- A tune frame has left: the card selection, and the latch where it still holds the command (R156). -/
def tuneSent (c : TuneCmd) (status : LineStatus) (s : State) : State :=
  match status with
  | .live => s.withVlink { s.vlink with cardSel := c.selects, latch := none }
  | .replaced => s.withVlink { s.vlink with cardSel := c.selects }
  | .muted => s

/-- ALL MUTE has left: the request it was sent for is cleared (R153, R162). -/
def muteSent (status : LineStatus) (s : State) : State :=
  if status = .live then s.withVlink { s.vlink with mute := false } else s

/-- The effects of a frame whose last bit has left (R148). -/
def frameSent (l : VlLine) (s : State) : State :=
  let s1 := s.withVlink { s.vlink with line := none }
  match l.frame with
  | .slotWrite v k x => slotSent v k x s1
  | .gate v c => gateSent v c l.status s1
  | .tune c => tuneSent c l.status s1
  | .allMute => muteSent l.status s1

/-! ## Delivery marks (R161) -/

/-- The last command of a list is marked. -/
def markLast : List ListedCmd → List ListedCmd
  | [] => []
  | [c] => [{ c with marked := true }]
  | c :: cs => c :: markLast cs

/-- The dirty slots of a voice as marks. -/
def dirtyMarks (s : State) (v : VoiceId) : BitVec 32 :=
  (List.finRange 32).foldl (fun m k => if dirty s v k then m ||| (1#32 <<< k.val) else m) 0

/-- What is outstanding is marked: every dirty slot, and the last command of every list (R161). -/
def markDelivery (s : State) : State :=
  s.withVlink { s.vlink with
    slotMarks := Vector.ofFn (fun v : VoiceId => dirtyMarks s v)
    lists := mapVec markLast s.vlink.lists }

/-- A delivery mark remains (R161). -/
def marksRemain (k : VLink) : Bool :=
  k.slotMarks.toList.any (· ≠ 0) || k.lists.toList.any (fun l => l.any (·.marked))

/-! ## Meanings -/

/-- VOICE_LINK_OPPORTUNITY (R153): one frame is chosen for the free line. -/
def execVoiceLinkOpportunity (s : State) : Host.Outcome State Fault Refusal :=
  act (fun s =>
    match s.vlink.line with
    | none => chooseFrame s
    | some _ => s) s

/-- VOICE_LINK_FRAME_SENT (R148): the last bit of the frame on the line has left. -/
def execVoiceLinkFrameSent (s : State) : Host.Outcome State Fault Refusal :=
  act (fun s =>
    match s.vlink.line with
    | some l => frameSent l s
    | none => s) s

end Sys2Proof.Machine
end

