-- ==== Sys2Proof/Machine/Requests.lean ====
section
/-! DEFINITION. The Request Processor: the request at the head of the request queue, executed whole, its checks in the order of R178
(10_management_requests.md). The operands of these commands are the head's payload (log entry 7). -/

namespace Sys2Proof.Machine

open Sys2Proof

/-! ## Execution and checks (R177 to R179) -/

/-- A request of kind `k` is executed: it stands at the head, and no request is in hand (R177). -/
def request (k : ReqKind) (body : Frame → State → State) (s : State) : State :=
  match s.req.hand, s.link.requests with
  | .free, f :: _ => if f.kind = k.code then body f s else s
  | _, _ => s

/-- The first two checks of R178: STATE before READY, UNKNOWN for a wrong payload length. -/
def checked (k : ReqKind) (body : List Byte → State → State) (f : Frame) (s : State) : State :=
  if s.req.phase ≠ .ready then answer .state [] s
  else if !k.lengthOk f.payload.length then answer .unknown [] s
  else body f.payload s

/-- An answer without data. -/
def answerOnly (r : ResultCode) (s : State) : State := answer r [] s

/-! ## STATUS (R180, R194) -/

/-- Run active, origin, mode and current voice (R194: FFH with no run). -/
def runBytes : Option Run → List Byte
  | some r => [1, r.origin.code, r.mode.code, optByte r.current]
  | none => [0, 0xFF, 0xFF, 0xFF]

/-- The 20 bytes of STATUS (R194). -/
def statusBytes (s : State) : List Byte :=
  [s.link.rx.code, s.req.phase.code] ++ runBytes s.tuner.run ++
  [optByte (s.tuner.check.map (·.voice)), natByte s.store.queue.length, natByte s.link.requests.length,
   natByte s.link.notices.length] ++
  ([.idle, .held, .sustained, .releasing, .damping, .tuning, .benched] : List VoiceState).map (fun st => natByte (stateCount s st)) ++
  bytesOfWord (voiceMask (fun v => (s.voice v).state = .benched)) ++ [statusFlags s.link]

/-- STATUS reads and clears the LOST and OVERRUN flags (R180). -/
def answerStatus (s : State) : State :=
  answer .ok (statusBytes s) (s.withLink { s.link with lost := false, overrun := false })

/-- STATUS, answered at every phase (R179, R180). -/
def doStatus (f : Frame) (s : State) : State :=
  if ReqKind.status.lengthOk f.payload.length then answerStatus s else answerOnly .unknown s

/-! ## Tables (R182 to R184) -/

/-- TABLE READ of a table (R182). -/
def readTable (t : Table) (first count : Byte) (s : State) : State :=
  match readCount t first.toNat count.toNat with
  | some n => answer .ok (first :: natByte n :: readEntries s t first.toNat n) s
  | none => answerOnly .range s

/-- TABLE READ (R182). -/
def doTableRead (payload : List Byte) (s : State) : State :=
  match payload with
  | [_, t, first, count] =>
    match tableOf t with
    | some t => readTable t first count s
    | none => answerOnly .unknown s
  | _ => answerOnly .unknown s

/-- The answer of a write: OK when all its effects have been made, or the result that refuses it (R183). -/
def answerWrite (x : Except ResultCode State) (s : State) : State :=
  match x with
  | .ok s1 => answerOnly .ok s1
  | .error r => answerOnly r s

/-- TABLE WRITE (R183). -/
def doTableWrite (payload : List Byte) (s : State) : State :=
  match payload with
  | _ :: t :: first :: data =>
    match tableOf t with
    | some t => answerWrite (writeTable t first.toNat data s) s
    | none => answerOnly .unknown s
  | _ => answerOnly .unknown s

/-- TABLE MERGE (R184). -/
def doTableMerge (payload : List Byte) (s : State) : State :=
  match payload with
  | [_, t, i, k, kh, kl, vh, vl] =>
    match tableOf t with
    | some t => answerWrite (mergeTable t i.toNat k.toNat (wordOfBytes kh kl) (wordOfBytes vh vl) s) s
    | none => answerOnly .unknown s
  | _ => answerOnly .unknown s

/-! ## Store requests (R185) -/

/-- ACCEPTED for an operation that was placed, BUSY otherwise (R109, R185). -/
def answerPlaced (x : Option State) (s : State) : State :=
  match x with
  | some s1 => answerOnly .accepted s1
  | none => answerOnly .busy s

/-- PATCH RECALL (R109, R185). -/
def doPatchRecall (payload : List Byte) (s : State) : State :=
  match payload with
  | [_, p, slot, t] =>
    match fin? p.toNat 4, timing? t with
    | some p, some t => answerPlaced (placeRecall p slot t s) s
    | _, _ => answerOnly .range s
  | _ => answerOnly .unknown s

/-- What a PATCH STORE copies at its acceptance (R114). -/
def patchCopy (s : State) (p : PartId) (slot : Byte) : StoreOp :=
  .patchWrite p slot s.params.values[p] s.params.names[p] s.params.editCount[p]

/-- PATCH STORE (R114, R185). -/
def doPatchStore (payload : List Byte) (s : State) : State :=
  match payload with
  | [_, p, slot] =>
    match fin? p.toNat 4 with
    | some p => answerPlaced (placeStore (patchCopy s p slot) s) s
    | none => answerOnly .range s
  | _ => answerOnly .unknown s

/-! ## Tune requests (R186) -/

/-- A TUNE START whose fields are in range (R139, R186). -/
def startTune (mode : RunMode) (voices : VoiceSet) (sources : BitVec 3) (s : State) : State :=
  if s.tuner.run.isSome then answerOnly .busy s
  else answerOnly .accepted (startRun .host mode voices sources (abandonCheck s))

/-- A source mask: bits 0–2, not empty (R186, R193; log entry 15). -/
def sourceMask? (b : Byte) : Option (BitVec 3) :=
  if b = 0 ∨ 7 < b.toNat then none else some (b.setWidth 3)

/-- TUNE START (R186). -/
def doTuneStart (payload : List Byte) (s : State) : State :=
  match payload with
  | [_, vh, vl, src, m] =>
    match sourceMask? src, runMode? m with
    | some sources, some mode =>
      if wordOfBytes vh vl = 0 then answerOnly .range s else startTune mode (wordOfBytes vh vl) sources s
    | _, _ => answerOnly .range s
  | _ => answerOnly .unknown s

/-- TUNE ABORT (R143): the run, and a drift check in progress. -/
def doTuneAbort (_ : List Byte) (s : State) : State := answerOnly .ok (abandonCheck (abortRun s))

/-! ## Barriers (R187, R188) -/

/-- Everything in the store queue and every pending select is marked (R187). -/
def markStore (s : State) : State :=
  s.withStore { s.store with
    queue := s.store.queue.map (fun e => { e with marked := true })
    selects := mapVec (fun x => x.map (fun y => { y with marked := true })) s.store.selects }

/-- A store mark remains (R187). -/
def storeMarksRemain (t : Store) : Bool :=
  t.queue.any (·.marked) || t.selects.toList.any (fun x => match x with
    | some y => y.marked
    | none => false)

/-- Sets what the Request Processor has in hand. -/
def setHand (h : Hand) (s : State) : State := s.withReq { s.req with hand := h }

/-- BARRIER APPLIED (R187). -/
def doBarrierApplied (_ : List Byte) (s : State) : State :=
  if storeMarksRemain (markStore s).store then setHand (.barrier false false) (markStore s) else answerOnly .ok s

/-- The delivery stage of a BARRIER DELIVERED (R161, R188). -/
def deliveryStage (s : State) : State :=
  if marksRemain (markDelivery s).vlink then setHand (.barrier true true) (markDelivery s) else answerOnly .ok (markDelivery s)

/-- BARRIER DELIVERED (R188). -/
def doBarrierDelivered (_ : List Byte) (s : State) : State :=
  if storeMarksRemain (markStore s).store then setHand (.barrier true false) (markStore s) else deliveryStage s

/-! ## Counters and resets (R189 to R191) -/

/-- COUNTER SNAPSHOT (R189). -/
def doCounterSnapshot (payload : List Byte) (s : State) : State :=
  match payload with
  | [_, c] =>
    match bool? c with
    | some clear =>
      answer .ok (s.link.counters.toList.flatMap bytesOfWord)
        (if clear then s.withLink { s.link with counters := .replicate 16 0 } else s)
    | none => answerOnly .range s
  | _ => answerOnly .unknown s

/-- A voice after RESET VOICES (R50 steps 2 and 3). -/
def rebuiltVoice (s : State) (v : VoiceId) : VoiceRec :=
  let r := s.voice v
  let idle := r.state ≠ .benched && s.oscValid v
  { state := if idle then .idle else .benched, owner := none, key := r.key, vel := r.vel, release := none, pending := .none,
    unisonIndex := 0, q := none, clamp := false, benchA := !idle && !(s.cal v .oscA).valid,
    benchB := !idle && !(s.cal v .oscB).valid, damp := none, notified := !idle }

/-- The voices rebuilt, the free queue in voice order, the other lists empty (R50 steps 2 to 4). -/
def rebuildVoices (s : State) : State :=
  (s.withAlloc { voices := Vector.ofFn (fun v : VoiceId => rebuiltVoice s v)
                 freeQueue := allVoices.filter (fun v => (rebuiltVoice s v).state = .idle)
                 gateList := [], releaseList := [] }).withPitch
    { s.pitch with unisonSize := .replicate 16 1 }

/-- The Note Router at RESET VOICES (R20). -/
def clearRouter (s : State) : State :=
  s.withRouter { s.router with sustain := .replicate 4 false, bend := .replicate 4 0, latches := .replicate 16 none,
                               pool := .replicate 32 none, lists := .replicate 4 [] }

/-- The six steps of RESET VOICES (R50). -/
def resetVoices (s : State) : State :=
  let s1 := clearRouter (rebuildVoices (abortForReset s))
  s1.withVlink s1.vlink.requestMute

/-- The mode byte of a RESET asks for FULL (R190). -/
def asksFull (f : Frame) : Bool := f.payload.length = 2 && f.payload.getD 1 0 = 1

/-- RESET with mode VOICES, or with a mode that gives RANGE (R190). -/
def doResetVoices (payload : List Byte) (s : State) : State :=
  if payload.getD 1 0 = 0 then answerOnly .ok (resetVoices s) else answerOnly .range s

/-- RESET FULL (R191): its OK joins the FIFO, and no further request is executed. -/
def doResetFull (f : Frame) (s : State) : State :=
  joinResponse { kind := f.kind, tag := tagOf f, result := .ok, data := [], fullReset := true } s

/-! ## Meanings -/

/-- STATUS (R180). -/
def execStatus (s : State) : Host.Outcome State Fault Refusal := act (request .status doStatus) s

/-- TABLE_READ (R182). -/
def execTableRead (s : State) : Host.Outcome State Fault Refusal := act (request .tableRead (checked .tableRead doTableRead)) s

/-- TABLE_WRITE (R183). -/
def execTableWrite (s : State) : Host.Outcome State Fault Refusal := act (request .tableWrite (checked .tableWrite doTableWrite)) s

/-- TABLE_MERGE (R184). -/
def execTableMerge (s : State) : Host.Outcome State Fault Refusal := act (request .tableMerge (checked .tableMerge doTableMerge)) s

/-- PATCH_RECALL (R185). -/
def execPatchRecall (s : State) : Host.Outcome State Fault Refusal :=
  act (request .patchRecall (checked .patchRecall doPatchRecall)) s

/-- PATCH_STORE (R114). -/
def execPatchStore (s : State) : Host.Outcome State Fault Refusal := act (request .patchStore (checked .patchStore doPatchStore)) s

/-- SETUP_SAVE (R117): the setup tables are copied at the acceptance. -/
def execSetupSave (s : State) : Host.Outcome State Fault Refusal :=
  act (request .setupSave (checked .setupSave (fun _ s => answerPlaced (placeStore (.setupSave (setupTables s)) s) s))) s

/-- CAL_SAVE (R117): the 48 records are copied at the acceptance. -/
def execCalSave (s : State) : Host.Outcome State Fault Refusal :=
  act (request .calSave (checked .calSave (fun _ s => answerPlaced (placeStore (.calSave s.tuner.cal) s) s))) s

/-- TUNE_START (R186). -/
def execTuneStart (s : State) : Host.Outcome State Fault Refusal := act (request .tuneStart (checked .tuneStart doTuneStart)) s

/-- TUNE_ABORT (R143). -/
def execTuneAbort (s : State) : Host.Outcome State Fault Refusal := act (request .tuneAbort (checked .tuneAbort doTuneAbort)) s

/-- BARRIER_APPLIED (R187). -/
def execBarrierApplied (s : State) : Host.Outcome State Fault Refusal :=
  act (request .barrierApplied (checked .barrierApplied doBarrierApplied)) s

/-- BARRIER_DELIVERED (R188). -/
def execBarrierDelivered (s : State) : Host.Outcome State Fault Refusal :=
  act (request .barrierDelivered (checked .barrierDelivered doBarrierDelivered)) s

/-- DELIVERY_STAGE (R188): the last store mark of a BARRIER DELIVERED has cleared. -/
def execDeliveryStage (s : State) : Host.Outcome State Fault Refusal :=
  act (fun s =>
    match s.req.hand with
    | .barrier true false => if storeMarksRemain s.store then s else deliveryStage s
    | _ => s) s

/-- BARRIER_RELEASE (R187, R188): the last mark of a barrier has cleared. -/
def execBarrierRelease (s : State) : Host.Outcome State Fault Refusal :=
  act (fun s =>
    match s.req.hand with
    | .barrier false _ => if storeMarksRemain s.store then s else answerOnly .ok s
    | .barrier true true => if marksRemain s.vlink then s else answerOnly .ok s
    | _ => s) s

/-- COUNTER_SNAPSHOT (R189). -/
def execCounterSnapshot (s : State) : Host.Outcome State Fault Refusal :=
  act (request .counterSnapshot (checked .counterSnapshot doCounterSnapshot)) s

/-- RESET_VOICES (R50): a RESET request but for mode FULL. -/
def execResetVoices (s : State) : Host.Outcome State Fault Refusal :=
  act (request .reset (fun f s => if asksFull f then s else checked .reset doResetVoices f s)) s

/-- RESET_FULL (R191): a RESET request of mode FULL. -/
def execResetFull (s : State) : Host.Outcome State Fault Refusal :=
  act (request .reset (fun f s => if asksFull f then checked .reset (fun _ => doResetFull f) f s else s)) s

end Sys2Proof.Machine
end

