-- ==== Sys2Proof/Machine/Dispatch.lean ====
section
/-! DEFINITION. The effect of each command on everything but the queue: one arm per row of spec/opcode_table.json. -/

namespace Sys2Proof.Machine

open Sys2Proof

/-- The effect of a command. -/
def exec (i : Instr) (s : State) : Host.Outcome State Fault Refusal :=
  match i with
  | .powerOn => Sys2Proof.Machine.execPowerOn s
  | .resetPin => Sys2Proof.Machine.execResetPin s
  | .fullResetBegin => Sys2Proof.Machine.execFullResetBegin s
  | .huntGoodFrame bytes => Sys2Proof.Machine.execHuntGoodFrame bytes s
  | .frameGapTimeout bytes => Sys2Proof.Machine.execFrameGapTimeout bytes s
  | .badFrame bytes => Sys2Proof.Machine.execBadFrame bytes s
  | .idleFrame => Sys2Proof.Machine.execIdleFrame s
  | .ignoredFrame f => Sys2Proof.Machine.execIgnoredFrame f s
  | .noteOn channel key velocity => Sys2Proof.Machine.execNoteOn channel key velocity s
  | .noteOff channel key => Sys2Proof.Machine.execNoteOff channel key s
  | .sustain channel onOff => Sys2Proof.Machine.execSustain channel onOff s
  | .bend channel u => Sys2Proof.Machine.execBend channel u s
  | .controlFine channel parameter low => Sys2Proof.Machine.execControlFine channel parameter low s
  | .controlCoarse channel parameter high => Sys2Proof.Machine.execControlCoarse channel parameter high s
  | .allOff channel => Sys2Proof.Machine.execAllOff channel s
  | .patchSelect channel slot => Sys2Proof.Machine.execPatchSelect channel slot s
  | .requestArrival f => Sys2Proof.Machine.execRequestArrival f s
  | .status => Sys2Proof.Machine.execStatus s
  | .tableRead => Sys2Proof.Machine.execTableRead s
  | .tableWrite => Sys2Proof.Machine.execTableWrite s
  | .tableMerge => Sys2Proof.Machine.execTableMerge s
  | .patchRecall => Sys2Proof.Machine.execPatchRecall s
  | .patchStore => Sys2Proof.Machine.execPatchStore s
  | .setupSave => Sys2Proof.Machine.execSetupSave s
  | .calSave => Sys2Proof.Machine.execCalSave s
  | .tuneStart => Sys2Proof.Machine.execTuneStart s
  | .tuneAbort => Sys2Proof.Machine.execTuneAbort s
  | .barrierApplied => Sys2Proof.Machine.execBarrierApplied s
  | .barrierDelivered => Sys2Proof.Machine.execBarrierDelivered s
  | .deliveryStage => Sys2Proof.Machine.execDeliveryStage s
  | .barrierRelease => Sys2Proof.Machine.execBarrierRelease s
  | .counterSnapshot => Sys2Proof.Machine.execCounterSnapshot s
  | .resetVoices => Sys2Proof.Machine.execResetVoices s
  | .resetFull => Sys2Proof.Machine.execResetFull s
  | .responseJoin => Sys2Proof.Machine.execResponseJoin s
  | .outboundFrameEnd => Sys2Proof.Machine.execOutboundFrameEnd s
  | .missedRefill => Sys2Proof.Machine.execMissedRefill s
  | .outboundIdleTimeout => Sys2Proof.Machine.execOutboundIdleTimeout s
  | .silenceAction => Sys2Proof.Machine.execSilenceAction s
  | .glideStep => Sys2Proof.Machine.execGlideStep s
  | .dampEnd v => Sys2Proof.Machine.execDampEnd v s
  | .releaseDeadlineExpiry v => Sys2Proof.Machine.execReleaseDeadlineExpiry v s
  | .scanRound => Sys2Proof.Machine.execScanRound s
  | .scanSettle => Sys2Proof.Machine.execScanSettle s
  | .scanSample sample => Sys2Proof.Machine.execScanSample sample s
  | .storeOpStart => Sys2Proof.Machine.execStoreOpStart s
  | .pendingSelectPlaced => Sys2Proof.Machine.execPendingSelectPlaced s
  | .recallReadEnd => Sys2Proof.Machine.execRecallReadEnd s
  | .nextNoteCommit p => Sys2Proof.Machine.execNextNoteCommit p s
  | .pageTransferDone => Sys2Proof.Machine.execPageTransferDone s
  | .pageWriteDone => Sys2Proof.Machine.execPageWriteDone s
  | .pageTimeout => Sys2Proof.Machine.execPageTimeout s
  | .setupLoad => Sys2Proof.Machine.execSetupLoad s
  | .calLoad => Sys2Proof.Machine.execCalLoad s
  | .tunerTakeVoice => Sys2Proof.Machine.execTunerTakeVoice s
  | .measurementSettleStart => Sys2Proof.Machine.execMeasurementSettleStart s
  | .tuneSettleExpiry => Sys2Proof.Machine.execTuneSettleExpiry s
  | .tuneEdge ticks => Sys2Proof.Machine.execTuneEdge ticks s
  | .countSaturated => Sys2Proof.Machine.execCountSaturated s
  | .noSignalTimeout => Sys2Proof.Machine.execNoSignalTimeout s
  | .driftPeriodExpiry => Sys2Proof.Machine.execDriftPeriodExpiry s
  | .retuneRunStart => Sys2Proof.Machine.execRetuneRunStart s
  | .voiceLinkOpportunity => Sys2Proof.Machine.execVoiceLinkOpportunity s
  | .voiceLinkFrameSent => Sys2Proof.Machine.execVoiceLinkFrameSent s
  | .resetRelease => Sys2Proof.Machine.execResetRelease s

end Sys2Proof.Machine
end

