-- ==== Sys2Proof/Safety.lean ====
section
/-! DEFINITION. The words in which the statements speak of the whole machine: the configuration tables and the commands that may
write them, the invariants of the queues, the voices, the Voice Link and the serial memory, and the frame of a good frame's arrival. -/

namespace Sys2Proof.Machine

open Sys2Proof

/-! ## Configuration tables (R2, R10, R55, R79, R94, R95, R118, R128, R129) -/

/-- The nine configuration tables are the same in two states. -/
structure SameTables (s t : State) : Prop where
  zones : t.router.zones = s.router.zones
  parts : t.router.parts = s.router.parts
  scale : t.pitch.scale = s.pitch.scale
  desc : t.params.desc = s.params.desc
  scanMap : t.panel.scanMap = s.panel.scanMap
  controls : t.panel.controls = s.panel.controls
  options : t.store.options = s.store.options
  target : t.tuner.target = s.tuner.target
  cfg : t.tuner.cfg = s.tuner.cfg

/-- The commands that may write a configuration table: the table writes, SETUP LOAD, and what begins a reset. -/
def writesTables : Instr → Bool
  | .tableWrite | .tableMerge | .setupLoad | .powerOn | .resetPin | .fullResetBegin | .outboundFrameEnd => true
  | _ => false

/-! ## Invariants -/

/-- R22 and R23: each list holds exactly the voices of its states, none of them twice. -/
structure VoiceListsOk (a : Alloc) : Prop where
  free : ∀ v : VoiceId, v ∈ a.freeQueue ↔ a.voices[v].state = .idle
  gate : ∀ v : VoiceId, v ∈ a.gateList ↔ a.voices[v].state = .held ∨ a.voices[v].state = .sustained
  release : ∀ v : VoiceId, v ∈ a.releaseList ↔ a.voices[v].state = .releasing
  freeOnce : a.freeQueue.Nodup
  gateOnce : a.gateList.Nodup
  releaseOnce : a.releaseList.Nodup

/-- R13: each part's list holds exactly the positions of its entries, none of them twice. -/
structure HeldPoolOk (r : Router) : Prop where
  listed : ∀ (p : PartId) (e : PoolPos), e ∈ r.lists[p] ↔ ∃ x, r.pool[e] = some x ∧ x.part = p
  once : ∀ p : PartId, (r.lists[p]).Nodup

/-- R151 and R152: a command list holds at most two commands; the voice command queue holds exactly the voices whose lists are not
empty, none of them twice. -/
structure CommandListsOk (k : VLink) : Prop where
  two : ∀ v : VoiceId, k.lists[v].length ≤ 2
  queued : ∀ v : VoiceId, v ∈ k.queue ↔ k.lists[v] ≠ []
  once : k.queue.Nodup

/-- The capacities of 00_scope.md 1.2: R169, R171, R108, R87. -/
structure WithinCapacities (s : State) : Prop where
  requests : s.link.requests.length ≤ Config.requestCap
  responses : s.link.responses.length ≤ Config.responseCap
  notices : s.link.notices.length ≤ Config.noticeCap
  store : s.store.queue.length ≤ Config.storeCap
  pickup : s.params.pickup.length ≤ Config.pickupCap

/-! ## Frames on EVIN -/

/-- The receiver acts on good frames without a LINK notice: LOCKED, or CANDIDATE with the loss-of-lock flag clear (R166). -/
def actsOnFrames (s : State) : Prop :=
  s.inReset = false ∧ (s.link.rx = .locked ∨ (s.link.rx = .candidate ∧ s.link.lossFlag = false))

/-- What a good frame of n bytes does before it is taken by its kind (R166, R168). -/
def afterGoodFrame (n : Nat) (l : Link) : Link :=
  { l with rx := .locked, badRun := 0, held := l.held.drop n,
           silence := match l.silence with
             | .stopped => .stopped
             | _ => .running (300 * Config.ticksPerMs)
           counters := l.counters.set 0 (satInc l.counters[0]) }

/-- A request is about to be executed: it stands at the head, nothing is in hand, and the part is READY (R177, R179). -/
def executes (s : State) (f : Frame) (rest : List Frame) : Prop :=
  s.inReset = false ∧ s.req.phase = .ready ∧ s.req.hand = .free ∧ s.link.requests = f :: rest

/-- The response FIFO has room (R169). -/
def hasRoom (s : State) : Prop := s.link.responses.length < Config.responseCap

/-- The link once request `f` has been answered with a result and data: its response joins the FIFO, the request leaves the queue, and
a free outbound line takes the head response (R169, R170, R177). -/
def answeredLink (f : Frame) (rest : List Frame) (result : ResultCode) (data : List Byte) (l : Link) : Link :=
  startOutbound { l with
    responses := l.responses ++ [{ kind := f.kind, tag := tagOf f, result, data, fullReset := false }], requests := rest }

/-- The link once a notice has been offered in READY: placed, and sent at once on a free line (R170, R171). -/
def noticedLink (n : Notice) (l : Link) : Link := startOutbound (placeNotice n l)

/-! ## Voices and held entries -/

/-- Computing a voice again would change nothing: its previous pitch, its clamp flag and its slots 0–3 are those of a computation as the
state stands (R53). -/
def isComputed (s : State) (v : VoiceId) : Prop := computeVoice v s = s

/-- What a computation of a voice in state `w` gives it, it has in state `t`: the record, the target and slots 0–3 (R53). -/
def computedFrom (w t : State) (v : VoiceId) : Prop :=
  t.voice v = (computeVoice v w).voice v ∧ t.pitch.target[v] = (computeVoice v w).pitch.target[v] ∧
    ∀ k : SlotId, k.val < 4 → t.pitch.slots[v][k] = (computeVoice v w).pitch.slots[v][k]

/-- A voice is in `t` as it is in `w`: its record, its target and its slots. -/
def voiceKept (w t : State) (v : VoiceId) : Prop :=
  t.voice v = w.voice v ∧ t.pitch.target[v] = w.pitch.target[v] ∧ t.pitch.slots[v] = w.pitch.slots[v]

/-- From state `w`, the voices of a set have been computed and nothing else has happened (R53, R70). -/
def recomputed (w t : State) (set : VoiceId → Bool) : Prop :=
  (∀ v : VoiceId, set v = true → computedFrom w t v ∧ ∀ k : SlotId, 4 ≤ k.val → t.pitch.slots[v][k] = w.pitch.slots[v][k]) ∧
  (∀ v : VoiceId, set v = false → voiceKept w t v) ∧
  { t.alloc with voices := w.alloc.voices } = w.alloc ∧
  { t.pitch with target := w.pitch.target, slots := w.pitch.slots } = w.pitch ∧ { t with alloc := w.alloc, pitch := w.pitch } = w

/-- A write of this parameter has the part's voices computed again (R71). -/
def computesVoices (n : ParamId) : Prop := n.val ≤ 5 ∨ n.val = 8 ∨ n.val = 10

/-- A voice record with the previous pitch and the clamp flag of another. -/
def VoiceRec.pitchedAs (r x : VoiceRec) : VoiceRec := { r with q := x.q, clamp := x.clamp }

/-- A voice's routed slots, 4–31, are those of a part's values in another state (R69). -/
def routedFrom (s t : State) (v : VoiceId) (p : PartId) : Prop := ∀ k : SlotId, 4 ≤ k.val → t.pitch.slots[v][k] = slotFor s p k

/-- A voice's routed slots are kept. -/
def routedKept (s t : State) (v : VoiceId) : Prop := ∀ k : SlotId, 4 ≤ k.val → t.pitch.slots[v][k] = s.pitch.slots[v][k]

/-- The voices outside a set, and all that belongs to them, are as they were; the set's voices may have other records, targets, group
sizes and slots 0–3, and the three lists may differ. Everything but the voices, their pitches, the held-key pool and the Voice Link is
kept. -/
def onlyVoices (s t : State) (set : VoiceSet) : Prop :=
  (∀ u : VoiceId, set.getLsbD u.val = false → t.voice u = s.voice u ∧ t.pitch.slots[u] = s.pitch.slots[u] ∧
    t.pitch.target[u] = s.pitch.target[u] ∧ t.pitch.unisonSize[u] = s.pitch.unisonSize[u]) ∧
  { t.pitch with target := s.pitch.target, slots := s.pitch.slots, unisonSize := s.pitch.unisonSize } = s.pitch ∧
  { t with router := s.router, alloc := s.alloc, pitch := s.pitch, vlink := s.vlink } = s

/-- The state once a voice has gone into DAMPING with a pending assignment (R33): out of the three lists, DAMP issued. -/
def damped (v : VoiceId) (pend : Pending) (s : State) : State :=
  { s with
    alloc := {
      voices := s.alloc.voices.set v { s.voice v with
        state := .damping, release := none, pending := pend, damp := none
        owner := match pend with
          | .entry p _ => some p
          | _ => none }
      freeQueue := s.alloc.freeQueue.filter (· ≠ v), gateList := s.alloc.gateList.filter (· ≠ v)
      releaseList := s.alloc.releaseList.filter (· ≠ v) }
    vlink := s.vlink.issue v .damp }

/-- An entry of a part that waits and that no voice damps toward (R39, R40). -/
def waitsUnserved (s : State) (p : PartId) (e : PoolPos) : Prop :=
  e ∈ s.partList p ∧ (∃ x, s.entry e = some x ∧ x.state = .waiting) ∧
    ∀ v : VoiceId, ¬((s.voice v).state = .damping ∧ (s.voice v).pending = .entry p e)

/-- The router with an entry of the pool replaced. -/
def Router.withEntry (r : Router) (e : PoolPos) (x : Option HeldEntry) : Router := { r with pool := r.pool.set e x }

/-- The router with an entry taken out of the pool and of its part's list (R13). -/
def Router.without (r : Router) (p : PartId) (e : PoolPos) : Router :=
  { r with pool := r.pool.set e none, lists := r.lists.set p (r.lists[p].filter (· ≠ e)) }

/-- A dropped note: the DROP notice of the part, and NOTES DROPPED (R14, R16). -/
def droppedLink (p : PartId) (l : Link) : Link := (noticedLink (.drop p 1) l).bump .notesDropped

/-- A BENCH notice and the notified condition it sets (R45). -/
def benchTold (v : VoiceId) (benched : Bool) (s : State) : State :=
  { s with
    link := noticedLink (.bench v benched (benched && !(s.cal v .oscA).valid) (benched && !(s.cal v .oscB).valid)) s.link
    alloc := { s.alloc with voices := s.alloc.voices.set v { s.voice v with notified := benched } } }

/-- The entries of a run written one after another in index order, the first at an index (R183). -/
def writtenRun {α : Type} {n : Nat} (write : Fin n → α → State → State) (first : Nat) (xs : List α) (s : State) : State :=
  (xs.zipIdx first).foldl (fun u x => if h : x.2 < n then write ⟨x.2, h⟩ x.1 u else u) s

/-! ## The Tuner -/

/-- No measurement is in progress and the counter is IDLE (R130). -/
def measurementOver (s : State) : State :=
  { s with tuner := { s.tuner with meas := none, counter := .idle, noSignal := none, settle := none } }

/-- TUNE RELEASE has been placed and the tune selection is none (R131, R156). -/
def tuneReleased (s : State) : State := { s with vlink := s.vlink.place .release, tuner := { s.tuner with selection := none } }

/-- A run that starts with a scope (R139). -/
def freshRun (origin : RunOrigin) (mode : RunMode) (voices : VoiceSet) (sources : BitVec 3) : Run :=
  { origin, mode, voices, sources, notDone := voices, current := none, passed := 0, failed := 0, aborted := false }

/-- A source has failed or passed: its last result or record, its counter, and the run's count (R136, R137). -/
def sourceEnded (cal : Vector CalRecord 48) (counter : Stat) (count : Run → Run) (s : State) : State :=
  { s with tuner := { s.tuner with cal := cal, run := s.tuner.run.map count }, link := s.link.bump counter }

end Sys2Proof.Machine
end

