-- ==== Sys2Proof/Certificates/Slice0/Obligations.lean ====
section
/-! DEFINITION. The statements for the provers. Where a statement rests on a choice of the model, its docstring names the log entry. -/

open Sys2Proof Sys2Proof.Machine

/-! ## Steps, the queue of commands, and resets -/

/-- A step runs the command at the front of the queue on the state with the queue's rest. -/
def Obligations.StepRunsTheFrontCommand : Prop :=
  ∀ (c : Instr) (rest : List Instr) (s : State), step (s.withPending (c :: rest)) = exec c (s.withPending rest)

/-- No command stops the part, and none touches the queue of commands. That a command out of turn, or with operands no frame can carry,
answers a next state as well is the model's choice (log entry 1). -/
def Obligations.EveryCommandGoesOn : Prop :=
  ∀ (c : Instr) (s : State), ∃ t, exec c s = .next t ∧ t.pending = s.pending

/-- On an empty queue a step is one tick of the 16 MHz clock (the model's choice, log entry 3): while COUNTING the count grows by one up
to its limit, every running timer loses a tick, nothing else changes; while the RESET pin is held nothing changes. -/
def Obligations.EmptyQueueIsOneTick : Prop :=
  ∀ s : State, s.pending = [] →
    (s.inReset = true → step s = .next s) ∧
    (s.inReset = false → step s = .next { s with
      link := { s.link with
        silence := match s.link.silence with
          | .running n => .running (n - 1)
          | x => x
        idleTimer := s.link.idleTimer.map (· - 1) }
      alloc := { s.alloc with
        voices := s.alloc.voices.map (fun r => { r with release := r.release.map (· - 1), damp := r.damp.map (· - 1) }) }
      pitch := { s.pitch with glideTimer := s.pitch.glideTimer.map (· - 1) }
      panel := { s.panel with scanTimer := s.panel.scanTimer.map (· - 1), roundTimer := s.panel.roundTimer.map (· - 1) }
      store := { s.store with pageTimer := s.store.pageTimer.map (· - 1) }
      tuner := { s.tuner with
        noSignal := s.tuner.noSignal.map (· - 1), settle := s.tuner.settle.map (· - 1),
        driftTimer := s.tuner.driftTimer.map (· - 1),
        count := if s.tuner.counter = .counting then min 16777215 (s.tuner.count + 1) else s.tuner.count } })

/-- POWER_ON, and RESET_PIN, FULL_RESET_BEGIN and the end of the frame that carries a RESET FULL's OK (log entry 8), give every block its
power-on values (those the spec does not give: log entry 6) while no page is being written; the serial memory is kept. RESET_PIN holds the part with an empty store queue (log entry 17). -/
def Obligations.ResetsGivePowerOnValues : Prop :=
  ∀ s : State, s.store.port.page? = none →
    let r := { State.reset with
      store := { Store.powerOn with mem := s.store.mem, memFitted := s.store.memFitted }
      freeCount := s.freeCount, pending := s.pending }
    exec .powerOn s = .next r ∧
    (s.inReset = false → exec .resetPin s = .next { r with store := { r.store with queue := [] }, inReset := true }) ∧
    ∀ x : Response, s.inReset = false → s.link.line = some (.response x) → x.fullReset = true →
      exec .fullResetBegin s = .next r ∧ exec .outboundFrameEnd s = .next r

/-- While the RESET pin is held nothing acts but POWER_ON and RESET_RELEASE (the model's choice, log entry 17). The release begins
start-up: the store queue holds SETUP LOAD followed by CAL LOAD and the outbound idle timer runs (R119, R176). Without a held pin
RESET_RELEASE is out of turn and does nothing (the model's choice, log entry 1). -/
def Obligations.ResetPinHoldsThePart : Prop :=
  (∀ (c : Instr) (s : State), s.inReset = true → c ≠ .powerOn → c ≠ .resetRelease → exec c s = .next s) ∧
  (∀ s : State, s.inReset = true → exec .resetRelease s = .next { s with
    inReset := false
    store := { s.store with queue := [⟨.setupLoad, false⟩, ⟨.calLoad, false⟩] }
    link := { s.link with idleTimer := some (100 * 16000) } }) ∧
  (∀ s : State, s.inReset = false → exec .resetRelease s = .next s)

/-- R158: both pointers stand at 511 after power-on and a FULL reset, so that each order begins at position 0; RESET VOICES keeps
both. -/
def Obligations.PointersAtResets : Prop :=
  (∀ s t : State, exec .powerOn s = .next t → t.vlink.scanPtr = 511 ∧ t.vlink.refreshPtr = 511) ∧
  (∀ (s t : State) (x : Response), s.inReset = false → s.link.line = some (.response x) → x.fullReset = true →
    exec .fullResetBegin s = .next t → t.vlink.scanPtr = 511 ∧ t.vlink.refreshPtr = 511) ∧
  posAfter 511 1 = 0 ∧
  (∀ s t : State, exec .resetVoices s = .next t → t.vlink.scanPtr = s.vlink.scanPtr ∧ t.vlink.refreshPtr = s.vlink.refreshPtr)

/-- What a power-on leaves, in the values the spec gives (R12, R20, R21, R51, R87, R105, R119, R123, R147, R163, R176); the invariants below
hold there. -/
def Obligations.PowerOnValues : Prop :=
  let s := State.reset
  (∀ v : VoiceId, (s.voice v).state = .benched ∧ (s.voice v).owner = none ∧ (s.voice v).q = none ∧ (s.voice v).benchA = true ∧
    (s.voice v).benchB = true) ∧
  s.alloc.freeQueue = [] ∧ s.alloc.gateList = [] ∧ s.alloc.releaseList = [] ∧
  (∀ e : PoolPos, s.entry e = none) ∧ (∀ p : PartId, s.router.sustain[p] = false ∧ s.router.bend[p] = 0 ∧
    s.params.window[p] = none ∧ s.params.editCount[p] = 0 ∧ s.params.modified[p] = false) ∧
  (∀ ch : ChannelId, s.router.latches[ch] = none) ∧ s.params.pickup = [] ∧ s.panel.mxa = 0 ∧
  (∀ c : ControlId, s.panel.states[c].reported = none) ∧ (∀ i : Fin 48, s.tuner.cal[i].valid = false) ∧
  s.tuner.counter = .idle ∧ s.tuner.run = none ∧ s.link.rx = .hunt ∧ s.link.silence = .stopped ∧ s.link.requests = [] ∧
  s.link.responses = [] ∧ s.link.notices = [] ∧ s.req.phase = .setup ∧ s.vlink.mute = true ∧
  (∀ (v : VoiceId) (k : SlotId), s.vlink.sent[v][k] = none) ∧ s.store.queue.map (·.op) = [.setupLoad, .calLoad] ∧
  VoiceListsOk s.alloc ∧ HeldPoolOk s.router ∧ CommandListsOk s.vlink ∧ WithinCapacities s ∧ s.store.mem.wf = true

/-! ## Invariants that every step keeps -/

/-- R22, R23: every step keeps each voice in exactly the list of its state, once. -/
def Obligations.VoiceListsAreKept : Prop :=
  ∀ s t : State, VoiceListsOk s.alloc → step s = .next t → VoiceListsOk t.alloc

/-- R13: every step keeps the held-key pool and the parts' lists in agreement. -/
def Obligations.HeldPoolIsKept : Prop :=
  ∀ s t : State, HeldPoolOk s.router → step s = .next t → HeldPoolOk t.router

/-- R151, R152: every step keeps each command list within two commands, and the queue on the voices whose lists are not empty. -/
def Obligations.CommandListsAreKept : Prop :=
  ∀ s t : State, CommandListsOk s.vlink → step s = .next t → CommandListsOk t.vlink

/-- R87, R108, R169, R171: every step keeps the queues and the pickup table within their capacities. -/
def Obligations.CapacitiesAreKept : Prop :=
  ∀ s t : State, WithinCapacities s → step s = .next t → WithinCapacities t

/-- R106: every step keeps the serial memory in its canonical form and leaves 9000H–FFFFH alone. -/
def Obligations.UnusedMemoryIsKept : Prop :=
  ∀ s t : State, s.store.mem.wf = true → step s = .next t →
    t.store.mem.wf = true ∧ ∀ a, 0x9000 ≤ a → t.store.mem.read a = s.store.mem.read a

/-- Only table writes, the load of the setup block and resets change a configuration table. -/
def Obligations.TablesChangeOnlyByWrites : Prop :=
  ∀ (c : Instr) (s t : State), writesTables c = false → exec c s = .next t → SameTables s t

/-! ## The Event Link (R164 to R174) -/

/-- R164, R194: the bytes of a frame are read back as that frame, whatever follows it. -/
def Obligations.FramesAreReadBack : Prop :=
  ∀ (f : Frame) (rest : List RxByte), f.fits = true → judge (rxBytes f ++ rest) = .good f (f.payload.length + 3)

/-- R164, R165: in HUNT the first byte held is the start. A bad start is rejected for the byte after it, a good frame is neither acted on
nor counted and leads to CANDIDATE with the byte after it as the next start, and a gap discards every byte held, where no start among
the bytes held and these bytes gives a good frame. That the commands carry bytes is the model's choice (log entry 16). -/
def Obligations.HuntForAGoodFrame : Prop :=
  ∀ (s : State) (bytes : List RxByte), s.inReset = false → s.link.rx = .hunt →
    (∀ f n, judge (s.link.held ++ bytes) = .good f n →
      exec (.huntGoodFrame bytes) s = .next { s with link := { s.link with
        rx := .candidate, held := (s.link.held ++ bytes).drop n } }) ∧
    (∀ b bs n, s.link.held ++ bytes = b :: bs → judge (b :: bs) = .bad n →
      exec (.huntGoodFrame bytes) s = exec (.huntGoodFrame bs) { s with link := { s.link with held := [] } }) ∧
    (∀ b bs, s.link.held ++ bytes = b :: bs → judge (b :: bs) = .incomplete →
      exec (.huntGoodFrame bytes) s = .next { s with link := { s.link with held := b :: bs } }) ∧
    ((∀ (i : Nat) (f : Frame) (n : Nat), judge ((s.link.held ++ bytes).drop i) ≠ .good f n) →
      exec (.frameGapTimeout bytes) s = .next { s with link := { s.link with held := [] } })

/-- R166: a bad frame in CANDIDATE leads to HUNT; in LOCKED the first two in a row are counted in the bad run, and the third leads to
HUNT with RESYNCS counted and the loss-of-lock flag set. A frame abandoned at a gap is a bad frame. The commands carry
whole frames (log entry 16). -/
def Obligations.BadFramesInLock : Prop :=
  ∀ (s : State) (bytes : List RxByte), s.inReset = false →
    let bad := s.link.bump .framesBad
    let lost := bad.bump .resyncs
    (judge bytes = .bad bytes.length →
      (s.link.rx = .candidate → exec (.badFrame bytes) s = .next (s.withLink
        { bad with rx := .hunt, held := s.link.held.drop bytes.length })) ∧
      (s.link.rx = .locked → s.link.badRun < 2 → exec (.badFrame bytes) s = .next (s.withLink
        { bad with badRun := s.link.badRun + 1, held := s.link.held.drop bytes.length })) ∧
      (s.link.rx = .locked → 2 ≤ s.link.badRun → exec (.badFrame bytes) s = .next (s.withLink
        { lost with rx := .hunt, badRun := 0, lossFlag := true, held := s.link.held.drop bytes.length }))) ∧
    (bytes ≠ [] →
      (s.link.rx = .candidate → exec (.frameGapTimeout bytes) s = .next (s.withLink { bad with rx := .hunt, held := [] })) ∧
      (s.link.rx = .locked → s.link.badRun < 2 → exec (.frameGapTimeout bytes) s = .next (s.withLink
        { bad with badRun := s.link.badRun + 1, held := [] })) ∧
      (s.link.rx = .locked → 2 ≤ s.link.badRun → exec (.frameGapTimeout bytes) s = .next (s.withLink
        { lost with rx := .hunt, badRun := 0, lossFlag := true, held := [] })))

/-- R166 to R168: an IDLE frame, and a good frame that is ignored, restart the silence timer and count FRAMES GOOD, and nothing else;
where the receiver locks again after a loss of lock, a LINK notice is offered and the flag cleared. -/
def Obligations.IdleAndIgnoredFrames : Prop :=
  (∀ s : State, actsOnFrames s →
    exec .idleFrame s = .next (s.withLink (afterGoodFrame 3 s.link)) ∧
    ∀ f : Frame, f.fits = true → ignorable f = true →
      exec (.ignoredFrame f) s = .next (s.withLink (afterGoodFrame (f.payload.length + 3) s.link))) ∧
  (∀ s : State, s.inReset = false → s.req.phase = .ready → s.link.rx = .candidate → s.link.lossFlag = true →
    exec .idleFrame s = .next (s.withLink (noticedLink (.link 1) { afterGoodFrame 3 s.link with lossFlag := false })))

/-- R169: a request joins the tail of the queue while it holds fewer than eight; with eight it is dropped, REQUESTS DROPPED is counted, the
OVERRUN flag set and an OVERRUN notice offered. -/
def Obligations.RequestsJoinOrAreDropped : Prop :=
  ∀ (s : State) (f : Frame), actsOnFrames s → s.req.phase = .ready → f.fits = true → f.isRequest = true →
    let l := afterGoodFrame (f.payload.length + 3) s.link
    (s.link.requests.length < 8 → exec (.requestArrival f) s = .next (s.withLink { l with requests := s.link.requests ++ [f] })) ∧
    (8 ≤ s.link.requests.length → exec (.requestArrival f) s = .next (s.withLink
      (noticedLink (.overrun 1) { l.bump .requestsDropped with overrun := true })))

/-- R169, R191: an answer joins a response FIFO that has room and its request leaves the queue; with the FIFO full the answer is held with
the request at the head, and RESPONSE_JOIN lets it join once there is room, the OK of a RESET FULL as any other, after which no further
request is taken in hand (log entries 8 and 9). Without room RESPONSE_JOIN is out of turn and does nothing (log entry 1). -/
def Obligations.AnswersJoinOrAreHeld : Prop :=
  ∀ (s : State) (f : Frame) (rest : List Frame) (r : Response),
    (∀ result data, s.link.requests = f :: rest →
      (hasRoom s → answer result data s = { s with
        link := startOutbound { s.link with
          responses := s.link.responses ++ [{ kind := f.kind, tag := f.payload.headD 0, result, data, fullReset := false }], requests := rest }
        req := { s.req with hand := .free } }) ∧
      (¬hasRoom s → answer result data s = { s with req := { s.req with
        hand := .held { kind := f.kind, tag := f.payload.headD 0, result, data, fullReset := false } } })) ∧
    (s.inReset = false → s.req.hand = .held r → s.link.requests = f :: rest →
      (hasRoom s → exec .responseJoin s = .next { s with
        link := startOutbound { s.link with responses := s.link.responses ++ [r], requests := rest }
        req := { s.req with hand := if r.fullReset then .fullReset else .free } }) ∧
      (¬hasRoom s → exec .responseJoin s = .next s)) ∧
    (s.req.phase = .ready → s.req.hand = .fullReset → s.inReset = false →
      exec .tableRead s = .next s ∧ exec .status s = .next s ∧ exec .resetVoices s = .next s ∧ exec .resetFull s = .next s)

/-- R170: at the end of a frame the idle timer restarts and the line takes the head response, otherwise the head notice, otherwise
nothing; a notice that leaves 24 or fewer with marks in the missed set makes a refill due (the count of refills due and its use as a
condition of the refill are the model's: log entry 9). At the idle timer's expiry, whatever ticks it has left (log entry 2), a free line
takes an IDLE frame. R174: a refill places the lowest-numbered missed control at the tail with its reported value and its detached flag,
and clears its mark; it needs no report setting. With the set empty it places nothing. A free line takes its frame at once (log entry 8).
R171 to R173: an offer before READY is discarded. In READY it is placed by the first of these that applies: it merges into the queued
entry of its kind and key, in its place; it joins the tail of a queue with room, a CONTROL CHANGE clearing its control's missed mark; with
the queue full a CONTROL CHANGE marks its control, and any other notice is lost, counted, and sets the LOST flag. -/
def Obligations.OutboundLineAndRefills : Prop :=
  (∀ (s : State) (x : OutFrame), s.inReset = false →
      (s.link.line = some x → okOfFullReset x = false →
        let l := { s.link with line := none, idleTimer := some (100 * 16000) }
        (∀ r rs, s.link.responses = r :: rs →
          exec .outboundFrameEnd s = .next (s.withLink { l with line := some (.response r), responses := rs })) ∧
        (∀ n ns, s.link.responses = [] → s.link.notices = n :: ns →
          exec .outboundFrameEnd s = .next (s.withLink { l with
            line := some (.notice n), notices := ns,
            refillsDue := if ns.length ≤ 24 ∧ s.link.missed ≠ 0 then s.link.refillsDue + 1 else s.link.refillsDue })) ∧
        (s.link.responses = [] → s.link.notices = [] → exec .outboundFrameEnd s = .next (s.withLink l))) ∧
      (s.link.idleTimer ≠ none → s.link.line = none →
        exec .outboundIdleTimeout s = .next (s.withLink { s.link with idleTimer := none, line := some .idle })) ∧
      (s.link.idleTimer ≠ none → s.link.line = some x →
        exec .outboundIdleTimeout s = .next (s.withLink { s.link with idleTimer := none }))) ∧
  (∀ (s : State) (c : ControlId) (v : Word12), s.inReset = false → 0 < s.link.refillsDue → s.link.notices.length < 32 →
      (s.link.missed.getLsbD c.val = true → (∀ d : ControlId, d < c → s.link.missed.getLsbD d.val = false) →
        s.panel.states[c].reported = some v →
        exec .missedRefill s = .next (s.withLink (startOutbound { s.link with
          notices := s.link.notices ++ [.controlChange c v (s.panel.controls[c].takeover = .pickup && s.params.pickup.any (fun e => e.control = c))]
          missed := s.link.missed &&& ~~~ (1#96 <<< c.val)
          refillsDue := s.link.refillsDue - 1 }))) ∧
      (s.link.missed = 0 → exec .missedRefill s = .next (s.withLink { s.link with refillsDue := s.link.refillsDue - 1 }))) ∧
  (∀ (s : State) (n : Notice),
    (s.req.phase ≠ .ready → offerNotice n s = s) ∧
    (s.req.phase = .ready → offerNotice n s = s.withLink (startOutbound (placeNotice n s.link)))) ∧
  (∀ n m : Notice, n.sameKey m = true ↔
    (∃ c v d w e, n = .controlChange c v d ∧ m = .controlChange c w e) ∨ (∃ p j k, n = .drop p j ∧ m = .drop p k) ∨
    (∃ j k, n = .overrun j ∧ m = .overrun k) ∨ (∃ j k, n = .link j ∧ m = .link k)) ∧
  (∀ (n : Notice) (l : Link),
    (∀ a m b, l.notices = a ++ m :: b → n.sameKey m = true → (∀ x ∈ a ++ b, n.sameKey x = false) →
      placeNotice n l = { l with notices := a ++ (match m with
        | .drop p k => .drop p (min 255 (k + 1))
        | .overrun k => .overrun (min 255 (k + 1))
        | .link k => .link (min 255 (k + 1))
        | _ => n) :: b }) ∧
    ((∀ m ∈ l.notices, n.sameKey m = false) →
      (∀ c v d, n = .controlChange c v d →
        (l.notices.length < 32 → placeNotice n l = { l with
          notices := l.notices ++ [n], missed := l.missed &&& ~~~ (1#96 <<< c.val) }) ∧
        (32 ≤ l.notices.length → placeNotice n l = { l with missed := l.missed ||| (1#96 <<< c.val) })) ∧
      ((∀ c v d, n ≠ .controlChange c v d) →
        (l.notices.length < 32 → placeNotice n l = { l with notices := l.notices ++ [n] }) ∧
        (32 ≤ l.notices.length → placeNotice n l = { l.bump .noticesLost with lost := true }))))

/-- R19, R168: the silence action empties the held-key pool, clears every sustain, sends the gated voices to RELEASING with GATE OFF, cancels
the pending assignments to entries, counts SILENCES, offers a SILENCE notice and stays expired; the rest is kept. The command is the expiry
whatever ticks the timer has left (log entry 2). -/
def Obligations.SilenceActionEndsTheNotes : Prop :=
  ∀ (s : State) (n : Nat), s.inReset = false → s.req.phase = .ready → s.link.silence = .running n → HeldPoolOk s.router →
    VoiceListsOk s.alloc →
    ∃ t, exec .silenceAction s = .next t ∧
      t.router = { s.router with sustain := .replicate 4 false, pool := .replicate 32 none, lists := .replicate 4 [] } ∧
      t.link = { noticedLink .silence (s.link.bump .silences) with silence := .expired } ∧
      (∀ v : VoiceId, t.voice v =
        match (s.voice v).state, (s.voice v).owner, (s.voice v).pending with
        | .held, some p, _ | .sustained, some p, _ => { s.voice v with
            state := .releasing, release := some (16000 * ((s.params.values[p][(9 : ParamId)]).toNat ^ 2 / 2048 + 5)) }
        | .damping, _, .entry _ _ => { s.voice v with pending := .none, owner := none }
        | _, _, _ => s.voice v) ∧
      (∀ v : VoiceId, t.vlink.lists[v] =
        match (s.voice v).state, (s.voice v).owner with
        | .held, some _ | .sustained, some _ => (mergeCmd s.vlink.lists[v] .off).1
        | _, _ => s.vlink.lists[v]) ∧
      t.alloc.freeQueue = s.alloc.freeQueue ∧
      { t.vlink with lists := s.vlink.lists, queue := s.vlink.queue, line := s.vlink.line } = s.vlink ∧
      { t with router := s.router, alloc := s.alloc, vlink := s.vlink, link := s.link } = s

/-! ## Parts, zones and held keys (R3 to R20) -/

/-- R4: SUSTAIN, BEND, ALL OFF and PATCH SELECT each act once on every listening part, part 0 first, as the ZONE table stands; NOTE OFF
visits every part. That part 0 goes first at each of these is the model's choice (log entry 12); at a CONTROL COARSE it is R82's order.
R6, R72: a part takes the value of a BEND; where it differs from the part's bend each sounding voice of the part is computed again at the
new one, and the other voices are left alone. R3: a NOTE ON with a key above 127 or with no zone that matches has no effect. A channel
above 15 is ignored. -/
def Obligations.ChannelEventsActOnListeners : Prop :=
  (∀ (s : State) (ch : ChannelId), actsOnFrames s → s.req.phase = .ready →
    let c := BitVec.ofNat 8 ch.val
    let s1 := s.withLink (afterGoodFrame 4 s.link)
    let s2 := s.withLink (afterGoodFrame 5 s.link)
    let s3 := s.withLink (afterGoodFrame 6 s.link)
    (∀ p : PartId, p ∈ listeners s ch ↔ ∃ i : Fin 8,
      s.router.zones[i].enabled = true ∧ s.router.zones[i].channel = ch ∧ s.router.zones[i].part = p) ∧
    (listeners s ch).Pairwise (· < ·) ∧
    (∀ b : Byte, exec (.sustain c b) s = .next (forEach (listeners s ch) (partSustain (b ≠ 0)) s2)) ∧
    (∀ u : Word, u.toNat ≤ 16383 →
      exec (.bend c u) s = .next (forEach (listeners s ch) (partBend ((u.toNat : Int) - 8192)) s3) ∧
      ∀ p : PartId, listeners s ch = [p] → (∀ v, soundsFor s p v = false) → exec (.bend c u) s = .next { s3 with
        router := { s.router with bend := s.router.bend.set p ((u.toNat : Int) - 8192) } }) ∧
    exec (.allOff c) s = .next (forEach (listeners s ch) partAllOff s1) ∧
    (∀ slot : Byte, exec (.patchSelect c slot) s = .next (forEach (listeners s ch) (partSelect slot) s2)) ∧
    (∀ key : Key, exec (.noteOff c (BitVec.ofNat 8 key.val)) s = .next (forEach [0, 1, 2, 3] (partNoteOff ch key) s2)) ∧
    (∀ key velocity : Byte,
      (127 < key.toNat ∨ ∀ i : Fin 8, ¬(s.router.zones[i].enabled = true ∧
        s.router.zones[i].channel = ch ∧ s.router.zones[i].keyLow.val ≤ key.toNat ∧
        key.toNat ≤ s.router.zones[i].keyHigh.val ∧ s.router.zones[i].velLow.val ≤ max 1 (min 127 velocity.toNat) ∧
        max 1 (min 127 velocity.toNat) ≤ s.router.zones[i].velHigh.val)) →
      exec (.noteOn c key velocity) s = .next s3) ∧
    ∀ high x y : Byte, 15 < high.toNat →
      exec (.noteOn high x y) s = .next s3 ∧ exec (.sustain high x) s = .next s2 ∧
      (∀ u, exec (.bend high u) s = .next s3) ∧ exec (.allOff high) s = .next s1 ∧
      exec (.patchSelect high x) s = .next s2 ∧ exec (.noteOff high x) s = .next s2 ∧
      exec (.controlCoarse high x y) s = .next s3) ∧
  (∀ (s : State) (p : PartId) (x : Int),
    let bent := { s with router := { s.router with bend := s.router.bend.set p x } }
    (s.router.bend[p] = x → partBend x p s = s) ∧ (s.router.bend[p] ≠ x → recomputed bent (partBend x p s) (soundsFor s p)))

/-- R7: CONTROL FINE sets the channel's fine latch and writes no parameter; CONTROL COARSE writes high part × 64 + low part to every
listening part, the low part from the latch where it holds the parameter and 0 otherwise, and empties the latch. Either is ignored, the
latch kept, for a parameter above PM47 or a part above 63. -/
def Obligations.ControlFramesLatchAndWrite : Prop :=
  ∀ (s : State) (ch : ChannelId) (n : ParamId) (x : Fin 64), actsOnFrames s → s.req.phase = .ready →
    let c := BitVec.ofNat 8 ch.val
    let a := s.withLink (afterGoodFrame 6 s.link)
    let latch (y : Option (ParamId × Fin 64)) := { a with router := { a.router with latches := a.router.latches.set ch y } }
    exec (.controlFine c (BitVec.ofNat 8 n.val) (BitVec.ofNat 8 x.val)) s = .next (latch (some (n, x))) ∧
    (∀ low : Fin 64, s.router.latches[ch] = some (n, low) →
      exec (.controlCoarse c (BitVec.ofNat 8 n.val) (BitVec.ofNat 8 x.val)) s =
        .next (forEach (listeners s ch) (fun p => writeParam p n (x.val * 64 + low.val)) (latch none))) ∧
    ((∀ low : Fin 64, s.router.latches[ch] ≠ some (n, low)) →
      exec (.controlCoarse c (BitVec.ofNat 8 n.val) (BitVec.ofNat 8 x.val)) s =
        .next (forEach (listeners s ch) (fun p => writeParam p n (x.val * 64)) (latch none))) ∧
    ∀ param part : Byte, 47 < param.toNat ∨ 63 < part.toNat →
      exec (.controlFine c param part) s = .next a ∧ exec (.controlCoarse c param part) s = .next a

/-- R5, R37: SUSTAIN on leaves the voices alone; SUSTAIN off of a part whose sustain is on sends its SUSTAINED voices to RELEASING in
gate-on order, each with a deadline from PM09 and GATE OFF, and leaves the other voices alone. -/
def Obligations.SustainOffReleases : Prop :=
  ∀ (s : State) (ch : ChannelId) (p : PartId) (b : Byte), actsOnFrames s → s.req.phase = .ready → listeners s ch = [p] →
    VoiceListsOk s.alloc →
    let c := BitVec.ofNat 8 ch.val
    let a := s.withLink (afterGoodFrame 5 s.link)
    let on := { s.router with sustain := s.router.sustain.set p true }
    let off := { s.router with sustain := s.router.sustain.set p false }
    let hit := fun v : VoiceId => decide ((s.voice v).state = .sustained) && decide ((s.voice v).owner = some p)
    (b ≠ 0 → exec (.sustain c b) s = .next { a with router := on }) ∧
    (s.router.sustain[p] = false → exec (.sustain c 0) s = .next a) ∧
    (s.router.sustain[p] = true → ∃ t, exec (.sustain c 0) s = .next t ∧ t.router = off ∧
      (∀ v : VoiceId, t.voice v = if hit v then { s.voice v with
        state := .releasing, release := some (16000 * ((s.params.values[p][(9 : ParamId)]).toNat ^ 2 / 2048 + 5)) } else s.voice v) ∧
      t.alloc.freeQueue = s.alloc.freeQueue ∧ t.alloc.gateList = s.alloc.gateList.filter (fun v => !hit v) ∧
      t.alloc.releaseList = s.alloc.releaseList ++ s.alloc.gateList.filter hit ∧
      (∀ v : VoiceId, t.vlink.lists[v] = if hit v then (mergeCmd s.vlink.lists[v] .off).1 else s.vlink.lists[v]) ∧
      { t.vlink with lists := s.vlink.lists, queue := s.vlink.queue, line := s.vlink.line } = s.vlink ∧
      t.link = a.link ∧ { t with router := s.router, alloc := s.alloc, vlink := s.vlink, link := s.link } = s)

/-- R3, R13, R14, R26, R28: a new key for a POLY part, with no voice of its own on the key to reuse and a free voice in its pool, takes
the lowest free pool position and the first voice of the free queue that is in the pool. The voice becomes HELD at the tail of the gate
list, its slots are computed and set, GATE ON is issued, and nothing else changes. The other cases of a NOTE ON are stated here too: each
zone that matches gives its part a part note-on, in index order. R3, R113: the record staged for a part is committed before the part's
first part note-on, and the note is allocated after it. R14, R32: a retrigger of a POLY entry; R14: a full pool drops the note. R17, R18:
what a press or retrigger of a MONO or UNISON part hands on. R27: the voice of a POLY part's own tail on the key is reused without a damp.
R29, R33: a RELEASING voice is damped toward the entry. R30: a SUSTAINED or else a HELD voice is stolen by the policy, and its entry
waits, is removed or keeps its other voices. R16, R31: with no voice the entry waits, or is dropped where revive is off. That a voice
damping toward an entry keeps its unison index in the record is the model's choice (log entry 22). -/
def Obligations.NoteOnTakesAFreeVoice : Prop :=
  (∀ (s : State) (ch : ChannelId) (key vel sounding : Key) (i : Fin 8) (p : PartId) (e : PoolPos) (v : VoiceId),
    actsOnFrames s → s.req.phase = .ready → 0 < vel.val →
    (∀ j : Fin 8, (s.router.zones[j].hit ch key vel = true ↔ j = i)) → s.router.zones[i].part = p →
    s.router.zones[i].sounding key = some sounding → s.store.staging[p] = none → (s.part p).mode = .poly →
    findEntry s p ch key = none → s.entry e = none → (∀ f : PoolPos, f < e → s.entry f ≠ none) →
    (∀ u : VoiceId, (s.voice u).owner = some p → (s.voice u).key = some sounding →
      (s.voice u).state ≠ .sustained ∧ (s.voice u).state ≠ .releasing) →
    ownedCount s p < (s.part p).maxVoices → s.alloc.freeQueue.find? (inPool s p) = some v → VoiceListsOk s.alloc →
    let started := (s.modVoice v (fun r => { r with
      state := .held, owner := some p, key := some sounding, vel := some vel, release := none, pending := .none, unisonIndex := 0,
      damp := none }))
    let played := computeVoice v started
    ∃ t, exec (.noteOn (BitVec.ofNat 8 ch.val) (BitVec.ofNat 8 key.val) (BitVec.ofNat 8 vel.val)) s = .next t ∧
      t.entry e = some { part := p, channel := ch, sourceKey := key, soundingKey := sounding, vel := vel, state := .voiced,
                         voices := 1#16 <<< v.val } ∧
      (∀ f : PoolPos, f ≠ e → t.entry f = s.entry f) ∧ t.partList p = s.partList p ++ [e] ∧
      (∀ q : PartId, q ≠ p → t.partList q = s.partList q) ∧ t.router.sustain = s.router.sustain ∧ t.router.bend = s.router.bend ∧
      t.router.latches = s.router.latches ∧ t.router.zones = s.router.zones ∧ t.router.parts = s.router.parts ∧
      t.voice v = played.voice v ∧ (∀ u : VoiceId, u ≠ v → t.voice u = s.voice u) ∧
      t.alloc.freeQueue = s.alloc.freeQueue.filter (· ≠ v) ∧ t.alloc.gateList = s.alloc.gateList ++ [v] ∧
      t.alloc.releaseList = s.alloc.releaseList ∧
      (∀ k : SlotId, t.pitch.slots[v][k] = if k.val < 4 then played.pitch.slots[v][k] else slotFor s p k) ∧
      (∀ u : VoiceId, u ≠ v → t.pitch.slots[u] = s.pitch.slots[u]) ∧
      (∀ u : VoiceId, u ≠ v → t.pitch.target[u] = s.pitch.target[u]) ∧
      { t.pitch with target := s.pitch.target, slots := s.pitch.slots } = s.pitch ∧ t.vlink = s.vlink.issue v .on ∧
      t.link = afterGoodFrame 6 s.link ∧
      { t with router := s.router, alloc := s.alloc, pitch := s.pitch, vlink := s.vlink, link := s.link } = s) ∧
  (∀ (s : State) (ch : ChannelId) (key vel : Key), actsOnFrames s → s.req.phase = .ready → 0 < vel.val →
    (∀ p : PartId, s.store.staging[p] = none) →
    exec (.noteOn (BitVec.ofNat 8 ch.val) (BitVec.ofNat 8 key.val) (BitVec.ofNat 8 vel.val)) s = .next
      (s.router.zones.toList.foldl (fun u z => match z.hit ch key vel, z.sounding key with
        | true, some k => partNoteOn z.part ch key k vel u
        | _, _ => u) (s.withLink (afterGoodFrame 6 s.link)))) ∧
  (∀ (s : State) (ch : ChannelId) (key vel : Key), actsOnFrames s → s.req.phase = .ready → 0 < vel.val →
    let committed (p : PartId) (u : State) := match u.store.staging[p] with
      | some r =>
        let w := recallCommit p r u
        { w with store := { u.store with staging := u.store.staging.set p none }, link := noticedLink (.recallDone p r.slot true) w.link }
      | none => u
    let visit (u : State × List PartId) (z : Zone) := match z.hit ch key vel, z.sounding key with
      | true, some k => (partNoteOn z.part ch key k vel (if z.part ∈ u.2 then u.1 else committed z.part u.1), z.part :: u.2)
      | _, _ => u
    exec (.noteOn (BitVec.ofNat 8 ch.val) (BitVec.ofNat 8 key.val) (BitVec.ofNat 8 vel.val)) s = .next
      (s.router.zones.toList.foldl visit (s.withLink (afterGoodFrame 6 s.link), [])).1) ∧
  (∀ (s : State) (p : PartId) (ch : ChannelId) (key sounding vel : Key),
    let pressed := partNoteOn p ch key sounding vel s
    let fresh : HeldEntry :=
      { part := p, channel := ch, sourceKey := key, soundingKey := sounding, vel := vel, state := .waiting, voices := 0 }
    (s.req.phase = .ready → findEntry s p ch key = none → (∀ f : PoolPos, s.entry f ≠ none) →
      pressed = s.withLink (droppedLink p s.link)) ∧
    (∀ e : PoolPos, findEntry s p ch key = none → s.entry e = none → (∀ f : PoolPos, f < e → s.entry f ≠ none) →
      let a := s.withRouter { s.router with pool := s.router.pool.set e (some fresh), lists := s.router.lists.set p (s.partList p ++ [e]) }
      ((s.part p).mode = .poly → pressed = polyAllocate p e sounding a) ∧
      ((s.part p).mode ≠ .poly →
        (s.partList p = [] → pressed = firstKey p e a) ∧
        (∀ o n, soundingEntry s p = some o → soundingEntry a p = some n →
          pressed = if n = o then a else soundingChange p o n (voicesOf a o) a))) ∧
    (∀ (e : PoolPos) (x : HeldEntry), findEntry s p ch key = some e → s.entry e = some x →
      let a := s.withRouter { s.router with
        pool := s.router.pool.set e (some { x with vel := vel }), lists := s.router.lists.set p ((s.partList p).filter (· ≠ e) ++ [e]) }
      ((s.part p).mode = .poly → x.state = .waiting → x.voices = 0 → pressed = a) ∧
      ((s.part p).mode = .poly → x.state = .voiced → pressed = groupRetrigger e a) ∧
      ((s.part p).mode ≠ .poly → ∀ o n, soundingEntry s p = some o → soundingEntry a p = some n →
        pressed = if n ≠ o then soundingChange p o n (voicesOf a o) a else if e = n then groupRetrigger n a else a))) ∧
  (∀ (s : State) (p : PartId) (e : PoolPos) (x : HeldEntry) (v : VoiceId), s.entry e = some x →
    let key := x.soundingKey
    let tail (st : VoiceState) (u : VoiceId) :=
      decide ((s.voice u).owner = some p) && decide ((s.voice u).key = some key) && decide ((s.voice u).state = st)
    s.alloc.gateList.find? (tail .sustained) = some v ∨
        (s.alloc.gateList.find? (tail .sustained) = none ∧ s.alloc.releaseList.find? (tail .releasing) = some v) →
    let t := polyAllocate p e key s
    t.router = { s.router with pool := s.router.pool.set e (some { x with state := .voiced, voices := 1#16 <<< v.val }) } ∧
      t.voice v = { s.voice v with
        state := .held, owner := some p, key := some key, vel := some x.vel, release := none, pending := .none, damp := none }.pitchedAs
          (t.voice v) ∧
      isComputed t v ∧ routedKept s t v ∧ onlyVoices s t (1#16 <<< v.val) ∧ t.pitch.unisonSize = s.pitch.unisonSize ∧
      t.alloc.freeQueue = s.alloc.freeQueue.filter (· ≠ v) ∧ t.alloc.gateList = s.alloc.gateList.filter (· ≠ v) ++ [v] ∧
      t.alloc.releaseList = s.alloc.releaseList.filter (· ≠ v) ∧ t.vlink = s.vlink.issue v .on) ∧
  (∀ (s : State) (p : PartId) (e : PoolPos) (x : HeldEntry), s.entry e = some x → (s.part p).mode = .poly →
    (∀ u : VoiceId, (s.voice u).owner = some p → (s.voice u).key = some x.soundingKey →
      (s.voice u).state ≠ .sustained ∧ (s.voice u).state ≠ .releasing) →
    let done := polyAllocate p e x.soundingKey s
    let full := (s.part p).maxVoices ≤ ownedCount s p
    let noFree := full ∨ ∀ u ∈ s.alloc.freeQueue, (s.part p).pool.getLsbD u.val = false
    let tail (u : VoiceId) := if full then (s.voice u).owner = some p else (s.part p).pool.getLsbD u.val = true
    let takable (u : VoiceId) := ∃ q, (s.voice u).owner = some q ∧
      if full then q = p else (s.part p).pool.getLsbD u.val = true ∧ (q = p ∨ (s.part q).level < (s.part p).level)
    let noTail := ∀ u ∈ s.alloc.releaseList, ¬tail u
    (∀ v, ¬full → s.alloc.freeQueue.find? (fun u => (s.part p).pool.getLsbD u.val) = some v → done = startFor v p e s) ∧
    (∀ a v b, noFree → s.alloc.releaseList = a ++ v :: b → tail v → (∀ u ∈ a, ¬tail u) → done = damped v (.entry p e) s) ∧
    (∀ v, noFree → noTail → stealVictim s p = some v →
      done = (takeVoice v (.entry p e) (fun c => c.revive) s).withLink (s.link.bump .steals)) ∧
    (noFree → noTail → (∀ u ∈ s.alloc.gateList, ¬((s.voice u).state = .sustained ∧ takable u) ∧ ¬((s.voice u).state = .held ∧ takable u)) →
      ((s.part p).revive = true → done = s) ∧
      ((s.part p).revive = false → s.req.phase = .ready → x.part = p →
        done = (s.withRouter (s.router.without p e)).withLink (droppedLink p s.link))) ∧
    (∀ a v b st, s.alloc.gateList = a ++ v :: b → (s.voice v).state = st → takable v →
      (st = .sustained ∨ (st = .held ∧ ∀ u ∈ s.alloc.gateList, ¬((s.voice u).state = .sustained ∧ takable u))) →
      ((s.part p).steal = .oldest → (∀ u ∈ a, ¬((s.voice u).state = st ∧ takable u)) → stealVictim s p = some v) ∧
      ((s.part p).steal = .quietest → (∀ u ∈ a, (s.voice u).state = st → takable u → velOf s v < velOf s u) →
        (∀ u ∈ b, (s.voice u).state = st → takable u → velOf s v ≤ velOf s u) → stealVictim s p = some v))) ∧
  (∀ (s : State) (v : VoiceId) (pend : Pending) (keepIf : PartCfg → Bool),
    let taken := takeVoice v pend keepIf s
    let d := damped v pend s
    (dampVoice v pend s = d) ∧ ((s.voice v).state ≠ .held → taken = d) ∧
    (∀ (q : PartId) (e : PoolPos) (y : HeldEntry), (s.voice v).state = .held → (s.voice v).owner = some q → s.entry e = some y →
      y.part = q → y.state = .voiced → y.voices.getLsbD v.val = true →
      (∀ f z, s.entry f = some z → z.voices.getLsbD v.val = true → f = e) →
      let rest := y.voices &&& ~~~ (1#16 <<< v.val)
      let group := (List.finRange 16).filter (fun u => rest.getLsbD u.val)
      let waits := d.withRouter (s.router.withEntry e (some { y with state := .waiting, voices := 0 }))
      ((s.part q).mode = .poly → keepIf (s.part q) = true → taken = waits) ∧
      ((s.part q).mode = .poly → keepIf (s.part q) = false → taken = d.withRouter (s.router.without q e)) ∧
      ((s.part q).mode ≠ .poly → rest = 0 → taken = waits) ∧
      ((s.part q).mode ≠ .poly → rest ≠ 0 → group.length ≤ 8 →
        taken.router = s.router.withEntry e (some { y with voices := rest }) ∧
        (∀ u : VoiceId, rest.getLsbD u.val = true →
          taken.voice u = { (s.voice u).pitchedAs (taken.voice u) with unisonIndex := (taken.voice u).unisonIndex } ∧
          (taken.voice u).unisonIndex.val = (group.filter (· < u)).length ∧ taken.pitch.unisonSize[u] = group.length ∧
          isComputed taken u ∧ routedKept s taken u) ∧
        onlyVoices d taken rest ∧ taken.vlink = d.vlink ∧
        { taken.alloc with voices := d.alloc.voices } = d.alloc)))

/-- R15, R37: the NOTE OFF of a VOICED entry of a POLY part that revives no note removes the entry; its voice goes to RELEASING with a
deadline from PM09 and GATE OFF while the part's sustain is off, and to SUSTAINED in its place of the gate list, without a command, while
it is on. R15: a part without the entry is left alone; a WAITING entry of a POLY part is removed and the voice damping toward it loses its
assignment. With sustain on, whatever revive says, and with revive on and no WAITING entry left unserved, the key up is the same. R39:
with revive on and sustain off the voice is transferred to the newest WAITING entry toward which no voice is damping, and stays HELD. R18,
R44: the release of an entry of a MONO or UNISON part that is not the sounding one changes no voice; that of the sounding entry is a
sounding change while another key is held, and a last key up otherwise, at which the group goes to SUSTAINED or RELEASING, in gate-on
order (log entry 12), and the voices damping toward the entry lose their assignment. -/
def Obligations.NoteOffReleasesTheVoice : Prop :=
  (∀ (s : State) (ch : ChannelId) (key : Key) (p : PartId) (e : PoolPos) (v : VoiceId) (x : HeldEntry),
    actsOnFrames s → s.req.phase = .ready → HeldPoolOk s.router → VoiceListsOk s.alloc →
    s.entry e = some x → x.part = p → x.channel = ch → x.sourceKey = key → x.state = .voiced → x.voices = 1#16 <<< v.val →
    (∀ f y, s.entry f = some y → y.channel = ch → y.sourceKey = key → f = e) →
    (s.part p).mode = .poly → (s.part p).revive = false → (s.voice v).state = .held →
    let off := exec (.noteOff (BitVec.ofNat 8 ch.val) (BitVec.ofNat 8 key.val)) s
    let a := s.withLink (afterGoodFrame 5 s.link)
    let router := { s.router with
      pool := s.router.pool.set e none, lists := s.router.lists.set p ((s.partList p).filter (· ≠ e)) }
    (s.router.sustain[p] = true → off = .next { a with
      router := router
      alloc := { s.alloc with voices := s.alloc.voices.set v { s.voice v with state := .sustained } } }) ∧
    (s.router.sustain[p] = false → off = .next { a with
      router := router
      alloc := { s.alloc with
        voices := s.alloc.voices.set v { s.voice v with
          state := .releasing, release := some (16000 * ((s.params.values[p][(9 : ParamId)]).toNat ^ 2 / 2048 + 5)) }
        gateList := s.alloc.gateList.filter (· ≠ v), releaseList := s.alloc.releaseList ++ [v] }
      vlink := s.vlink.issue v .off })) ∧
  (∀ (s : State) (ch : ChannelId) (key : Key) (p : PartId), findEntry s p ch key = none → partNoteOff ch key p s = s) ∧
  (∀ (s : State) (ch : ChannelId) (key : Key) (p : PartId) (e : PoolPos) (x : HeldEntry), findEntry s p ch key = some e →
    s.entry e = some x → x.part = p →
    let off := partNoteOff ch key p s
    let a := s.withRouter (s.router.without p e)
    let toward (u : VoiceId) := (s.voice u).state = .damping ∧ (s.voice u).pending = .entry p e
    let late (u : VoiceId) := { s.voice u with
      state := .releasing, release := some (16000 * ((s.params.values[p][(9 : ParamId)]).toNat ^ 2 / 2048 + 5)) }
    ((s.part p).mode = .poly → x.state = .waiting →
      off.router = a.router ∧
      (∀ u : VoiceId, (toward u → off.voice u = { s.voice u with pending := .none, owner := none }) ∧
        (¬toward u → off.voice u = s.voice u)) ∧
      { off.alloc with voices := s.alloc.voices } = s.alloc ∧ { off with router := s.router, alloc := s.alloc } = s) ∧
    (∀ (v : VoiceId) (w : PoolPos) (y : HeldEntry) (l m : List PoolPos), (s.part p).mode = .poly → x.state = .voiced →
      x.voices = 1#16 <<< v.val → s.router.sustain[p] = false → (s.part p).revive = true → a.partList p = l ++ w :: m →
      waitsUnserved a p w → (∀ f ∈ m, ¬waitsUnserved a p f) → a.entry w = some y → v ∈ s.alloc.gateList → (s.voice v).state = .held →
      let b := s.withLink (s.link.bump .revivals)
      off.router = a.router.withEntry w (some { y with state := .voiced, voices := x.voices }) ∧
      off.voice v = { s.voice v with key := some y.soundingKey, vel := some y.vel }.pitchedAs (off.voice v) ∧
      isComputed off v ∧ routedFrom s off v p ∧ onlyVoices b off x.voices ∧ off.pitch.unisonSize = s.pitch.unisonSize ∧
      { off.alloc with voices := s.alloc.voices } = { s.alloc with gateList := s.alloc.gateList.filter (· ≠ v) ++ [v] } ∧
      off.vlink = s.vlink.issue v .on) ∧
    (∀ v : VoiceId, (s.part p).mode = .poly → x.state = .voiced → x.voices = 1#16 <<< v.val → VoiceListsOk s.alloc →
      (s.voice v).state = .held →
      (s.router.sustain[p] = true → off = { a with alloc := { s.alloc with
        voices := s.alloc.voices.set v { s.voice v with state := .sustained } } }) ∧
      (s.router.sustain[p] = false → (s.part p).revive = false ∨ (∀ w, ¬waitsUnserved a p w) → off = { a with
        alloc := { s.alloc with
          voices := s.alloc.voices.set v (late v), gateList := s.alloc.gateList.filter (· ≠ v), releaseList := s.alloc.releaseList ++ [v] }
        vlink := s.vlink.issue v .off })) ∧
    (∀ n, (s.part p).mode ≠ .poly → soundingEntry a p = some n →
      (soundingEntry s p ≠ some e → off = a) ∧ (soundingEntry s p = some e → off = soundingChange p e n x.voices a)) ∧
    ((s.part p).mode ≠ .poly → a.partList p = [] → VoiceListsOk s.alloc →
      (∀ u : VoiceId, x.voices.getLsbD u.val = true → (s.voice u).state = .held) →
      off.router = a.router ∧
      (∀ u : VoiceId, x.voices.getLsbD u.val = false → (toward u → off.voice u = { s.voice u with pending := .none, owner := none }) ∧
        (¬toward u → off.voice u = s.voice u)) ∧
      (s.router.sustain[p] = true → (∀ u : VoiceId, x.voices.getLsbD u.val = true → off.voice u = { s.voice u with state := .sustained }) ∧
        { off.alloc with voices := s.alloc.voices } = s.alloc ∧ off.vlink = s.vlink) ∧
      (s.router.sustain[p] = false →
        let gone := s.alloc.gateList.filter (fun u => x.voices.getLsbD u.val)
        (∀ u : VoiceId, x.voices.getLsbD u.val = true → off.voice u = late u) ∧
        { off.alloc with voices := s.alloc.voices } = { s.alloc with
          gateList := s.alloc.gateList.filter (fun u => !x.voices.getLsbD u.val), releaseList := s.alloc.releaseList ++ gone } ∧
        off.vlink = gone.foldl (fun k u => k.issue u .off) s.vlink) ∧
      { off with router := s.router, alloc := s.alloc, vlink := s.vlink } = s))

/-- R8: ALL OFF of a part removes its entries, clears its sustain, sends its HELD and SUSTAINED voices to RELEASING, leaves its RELEASING
voices, and cancels the pending assignments for it. Other parts' entries and voices, its bend and the fine latches are kept. R11: a PART
write that changes mode, unison count, pool or max voices clears the part in the same way, but damps its sounding voices, in voice order
(log entry 12), and then stores the settings; any other change is stored, with a sounding change where the sounding entry moves and a
computation of the part's voices where the scale changes. A damped voice keeps its unison index in the record (log entry 22). -/
def Obligations.AllOffClearsAPart : Prop :=
  (∀ (s : State) (ch : ChannelId) (p : PartId), actsOnFrames s → s.req.phase = .ready → listeners s ch = [p] → HeldPoolOk s.router →
    VoiceListsOk s.alloc →
    ∃ t, exec (.allOff (BitVec.ofNat 8 ch.val)) s = .next t ∧
      (∀ e : PoolPos, t.entry e = match s.entry e with
        | some x => if x.part = p then none else some x
        | none => none) ∧
      t.router.lists = s.router.lists.set p [] ∧ t.router.sustain = s.router.sustain.set p false ∧ t.router.bend = s.router.bend ∧
      t.router.latches = s.router.latches ∧ t.router.zones = s.router.zones ∧ t.router.parts = s.router.parts ∧
      (∀ v : VoiceId, t.voice v =
        if ((s.voice v).state = .held ∨ (s.voice v).state = .sustained) ∧ (s.voice v).owner = some p then { s.voice v with
          state := .releasing, release := some (16000 * ((s.params.values[p][(9 : ParamId)]).toNat ^ 2 / 2048 + 5)) }
        else if (s.voice v).state = .damping ∧ ∃ e, (s.voice v).pending = .entry p e then
          { s.voice v with pending := .none, owner := none }
        else s.voice v) ∧
      t.alloc.freeQueue = s.alloc.freeQueue ∧ t.link = afterGoodFrame 4 s.link ∧
      { t with router := s.router, alloc := s.alloc, vlink := s.vlink, link := s.link } = s ∧
      { t.vlink with lists := s.vlink.lists, queue := s.vlink.queue, line := s.vlink.line } = s.vlink ∧
      ∀ v : VoiceId, t.vlink.lists[v] =
        if ((s.voice v).state = .held ∨ (s.voice v).state = .sustained) ∧ (s.voice v).owner = some p then
          (mergeCmd s.vlink.lists[v] .off).1
        else s.vlink.lists[v]) ∧
  (∀ (s : State) (p : PartId) (c : PartCfg), HeldPoolOk s.router → VoiceListsOk s.alloc →
    let t := writePart p c s
    let old := s.part p
    let stored := s.withRouter { s.router with parts := s.router.parts.set p c }
    let structural := old.mode ≠ c.mode ∨ old.unisonCount ≠ c.unisonCount ∨ old.pool ≠ c.pool ∨ old.maxVoices ≠ c.maxVoices
    let owned := (List.finRange 16).filter (soundsFor s p)
    (structural →
      (∀ e : PoolPos, t.entry e = match s.entry e with
        | some x => if x.part = p then none else some x
        | none => none) ∧
      { t.router with pool := s.router.pool } = { s.router with
        parts := s.router.parts.set p c, lists := s.router.lists.set p [], sustain := s.router.sustain.set p false } ∧
      (∀ v : VoiceId, t.voice v =
        if soundsFor s p v then { s.voice v with state := .damping, release := none, pending := .none, owner := none, damp := none }
        else if (s.voice v).state = .damping ∧ ∃ e, (s.voice v).pending = .entry p e then
          { s.voice v with pending := .none, owner := none }
        else s.voice v) ∧
      { t.alloc with voices := s.alloc.voices } = { s.alloc with
        gateList := s.alloc.gateList.filter (fun v => !soundsFor s p v)
        releaseList := s.alloc.releaseList.filter (fun v => !soundsFor s p v) } ∧
      t.vlink = owned.foldl (fun k v => k.issue v .damp) s.vlink ∧
      { t with router := s.router, alloc := s.alloc, vlink := s.vlink } = s) ∧
    (¬structural → old.scale = c.scale →
      (old.mode = .poly ∨ soundingEntry stored p = soundingEntry s p → t = stored) ∧
      (∀ o n, old.mode ≠ .poly → soundingEntry s p = some o → soundingEntry stored p = some n → n ≠ o →
        t = soundingChange p o n (voicesOf stored o) stored)) ∧
    (¬structural → old.scale ≠ c.scale → old.mode = .poly ∨ soundingEntry stored p = soundingEntry s p →
      (∀ v : VoiceId, soundsFor s p v = true → isComputed t v ∧ t.voice v = (s.voice v).pitchedAs (t.voice v) ∧ routedKept s t v) ∧
      t.router = stored.router ∧ onlyVoices s t (voiceMask (soundsFor s p)) ∧ t.pitch.unisonSize = s.pitch.unisonSize ∧
      { t.alloc with voices := s.alloc.voices } = s.alloc ∧ t.vlink = s.vlink))

/-- R9, R109, R110, R187: the recall of a PATCH SELECT, with the part's select timing at the event, takes the place of the part's waiting
recall, else joins a store queue with room, else becomes the part's pending select, which replaces the one it held and keeps its mark. -/
def Obligations.PatchSelectRaisesARecall : Prop :=
  ∀ (s : State) (ch : ChannelId) (p : PartId) (slot : Byte), actsOnFrames s → s.req.phase = .ready → listeners s ch = [p] →
    let a := s.withLink (afterGoodFrame 5 s.link)
    let timing := (s.part p).select
    let done := exec (.patchSelect (BitVec.ofNat 8 ch.val) slot) s
    let idle := ∀ q : PartId, s.store.selects[q] = none
    (recallWaits s p = true → 4 ≤ s.store.queue.length ∨ idle → done = .next { a with store := { s.store with
      queue := s.store.queue.take 1 ++ (s.store.queue.drop 1).map (fun e =>
        if e.recalls p then { e with op := .recallRead p slot timing } else e) } }) ∧
    (recallWaits s p = false → s.store.queue.length < 4 → idle → done = .next { a with store := { s.store with
      queue := s.store.queue ++ [{ op := .recallRead p slot timing, marked := false }] } }) ∧
    (recallWaits s p = false → 4 ≤ s.store.queue.length → done = .next { a with store := { s.store with
      selects := s.store.selects.set p (some { slot := slot, timing := timing, marked := match s.store.selects[p] with
        | some x => x.marked
        | none => false }) } })

/-! ## Voices (R34 to R40, R58 to R75) -/

/-- R36: a damp end without a pending assignment makes the voice IDLE at the tail of the free queue while both its oscillator records are
VALID, and BENCHED with its reason otherwise; a pending tuner makes it TUNING with no previous pitch, whatever run is active. R38: at its
deadline a RELEASING voice becomes IDLE at the tail of the free queue, keeping its key, velocity and pitch. The benched condition is the
notified one here. R47: a voice that becomes IDLE is first offered to the Tuner, which takes it for a BACKGROUND run that has not done it
and measures no voice. R40: otherwise the arbiter gives it to the eligible part of the highest level, the lowest number among equals: in
POLY for the newest WAITING entry toward which no voice is damping, in MONO or UNISON for the sounding entry, as a start of the voice
(stated below), and REVIVALS is counted; with no eligible part it stays. R46, R49: a
voice returned from damping or tuning settles in the same way, with a BENCH notice where its condition differs from the notified one. The two
commands are the expiries whatever ticks are left (log entry 2). -/
def Obligations.FreedVoicesSettle : Prop :=
  (∀ (s : State) (v : VoiceId) (n : Nat), s.inReset = false → VoiceListsOk s.alloc →
    let record (r : VoiceRec) := { s with alloc := { s.alloc with voices := s.alloc.voices.set v r } }
    let quiet := { s.voice v with owner := none, pending := .none, release := none, damp := none }
    let released := { s with alloc := { s.alloc with
      voices := s.alloc.voices.set v { quiet with state := .idle, benchA := false, benchB := false }
      freeQueue := s.alloc.freeQueue ++ [v], releaseList := s.alloc.releaseList.filter (· ≠ v) } }
    let wanted := ∃ r, s.tuner.run = some r ∧ r.mode = .background ∧ r.notDone.getLsbD v.val = true ∧ r.current = none
    ((s.voice v).state = .releasing → (s.voice v).release = some n →
      (¬wanted → exec (.releaseDeadlineExpiry v) s = .next (revive v released)) ∧
      (s.tuner.run = none → (∀ p, (s.part p).revive = false) → exec (.releaseDeadlineExpiry v) s = .next released) ∧
      (∀ r, s.tuner.run = some r → r.mode = .background → r.notDone.getLsbD v.val = true → r.current = none →
        exec (.releaseDeadlineExpiry v) s = .next { s with
          alloc := { s.alloc with
            voices := s.alloc.voices.set v { quiet with state := .tuning, benchA := false, benchB := false, q := none }
            releaseList := s.alloc.releaseList.filter (· ≠ v) }
          tuner := { s.tuner with run := some { r with current := some v } } })) ∧
    ((s.voice v).state = .damping → (s.voice v).damp = some n →
    ((s.voice v).pending = .none → s.oscValid v = true → (s.voice v).notified = false → s.tuner.run = none →
      (∀ p, (s.part p).revive = false) →
      exec (.dampEnd v) s = .next { s with alloc := { s.alloc with
        voices := s.alloc.voices.set v { quiet with state := .idle, benchA := false, benchB := false }
        freeQueue := s.alloc.freeQueue ++ [v] } }) ∧
    ((s.voice v).pending = .none → s.oscValid v = false → (s.voice v).notified = true → s.tuner.run = none →
      exec (.dampEnd v) s = .next (record { quiet with
        state := .benched, benchA := !(s.cal v .oscA).valid, benchB := !(s.cal v .oscB).valid })) ∧
    ((s.voice v).pending = .tuner → exec (.dampEnd v) s = .next (record { quiet with state := .tuning, q := none })) ∧
    ((s.voice v).pending = .none → exec (.dampEnd v) s = .next (settleVoice v s)))) ∧
  (∀ (s : State) (v : VoiceId) (p : PartId), eligible s v p = true ↔
    (s.part p).revive = true ∧ (s.part p).pool.getLsbD v.val = true ∧ ownedCount s p < (s.part p).maxVoices ∧
    ((s.part p).mode = .poly → ∃ e, waitsUnserved s p e) ∧
    ((s.part p).mode ≠ .poly → ∃ e, soundingEntry s p = some e ∧ groupCount s p e < wantedSize (s.part p))) ∧
  (∀ (s : State) (v : VoiceId), (∀ p, eligible s v p = false) → revive v s = s) ∧
  (∀ (s : State) (v : VoiceId) (p : PartId), eligible s v p = true →
    (∀ q, eligible s v q = true → (s.part q).level < (s.part p).level ∨ ((s.part q).level = (s.part p).level ∧ p ≤ q)) →
    let won (e : PoolPos) := revive v s = (startFor v p e s).withLink ((startFor v p e s).link.bump .revivals)
    (∀ a e b, (s.part p).mode = .poly → s.partList p = a ++ e :: b → waitsUnserved s p e → (∀ f ∈ b, ¬waitsUnserved s p f) → won e) ∧
    (∀ e, (s.part p).mode ≠ .poly → soundingEntry s p = some e → won e)) ∧
  (∀ (s : State) (v : VoiceId), s.req.phase = .ready →
    let quiet := { s.voice v with owner := none, pending := .none, release := none, damp := none }
    let into (r : VoiceRec) (last : List VoiceId) := { s with alloc := {
      voices := s.alloc.voices.set v r, freeQueue := s.alloc.freeQueue.filter (· ≠ v) ++ last
      gateList := s.alloc.gateList.filter (· ≠ v), releaseList := s.alloc.releaseList.filter (· ≠ v) } }
    let idle := into { quiet with state := .idle, benchA := false, benchB := false } [v]
    let benched := into { quiet with state := .benched, benchA := !(s.cal v .oscA).valid, benchB := !(s.cal v .oscB).valid } []
    let wanted := ∃ r, s.tuner.run = some r ∧ r.mode = .background ∧ r.notDone.getLsbD v.val = true ∧ r.current = none
    (s.oscValid v = true →
      settleVoice v s = offerIdle v (if (s.voice v).notified = false then idle else benchTold v false idle)) ∧
    (s.oscValid v = false →
      settleVoice v s = offerBenched v (if (s.voice v).notified = true then benched else benchTold v true benched)) ∧
    (¬wanted → offerIdle v s = revive v s ∧ offerBenched v s = s) ∧
    (wanted → offerBenched v s = offerIdle v s ∧
      let claimed := into { quiet with state := .tuning, q := none } []
      offerIdle v s = { claimed with tuner := { s.tuner with run := s.tuner.run.map (fun r => { r with current := some v }) } }))

/-- R36: a damp end toward an entry starts the voice for it: HELD at the tail of the gate list with the entry's key and velocity, its
slots set, GATE ON issued, the entry VOICED with it. The unison index 0 of a POLY start is the model's choice (log entry 12). R40, R42: a
voice that starts otherwise is started in the same way. R36, R41: in MONO and UNISON the voice joins the group of the entry, whose voices
are numbered in voice order, with the group's size, and computed again; only the new voice takes routed slots and GATE ON. R17: the
sounding entry is the newest one, or the newest of those with the lowest or the highest key. R41: the wanted size. R42: a first key takes
back the part's own tails in voice order, then voices by the POLY steps 2 to 4 up to the wanted size, in at most 32 rounds (the model's
bound, never met: log entry 13). Each of these takes a free voice, else damps a RELEASING one, else steals, else fails (R28 to R30). R43:
a sounding change gives the group's voices the new key and velocity, with GATE ON in voice order where legato is off, and moves the
assignments of those damping toward the old entry; with an empty group it moves only those assignments and leaves the old entry WAITING. A
group retrigger gives the velocity and GATE ON; that it goes in voice order is the model's choice (log entry 12). -/
def Obligations.DampEndStartsTheNote : Prop :=
  (∀ (s : State) (v : VoiceId) (n : Nat) (p : PartId) (e : PoolPos) (x : HeldEntry), s.inReset = false →
    (s.voice v).state = .damping → (s.voice v).damp = some n → (s.voice v).pending = .entry p e → s.entry e = some x →
    exec (.dampEnd v) s = .next (startFor v p e s)) ∧
  (∀ (s : State) (v : VoiceId) (p : PartId) (e : PoolPos) (x : HeldEntry), s.entry e = some x →
    (s.part p).mode = .poly → VoiceListsOk s.alloc →
    let started := s.modVoice v (fun r => { r with
      state := .held, owner := some p, key := some x.soundingKey, vel := some x.vel, release := none, pending := .none,
      unisonIndex := 0, damp := none })
    let played := computeVoice v started
    let t := startFor v p e s
    t.router = { s.router with pool := s.router.pool.set e (some { x with state := .voiced, voices := 1#16 <<< v.val }) } ∧
      t.voice v = played.voice v ∧ (∀ u : VoiceId, u ≠ v → t.voice u = s.voice u) ∧
      t.alloc.gateList = s.alloc.gateList.filter (· ≠ v) ++ [v] ∧ t.alloc.freeQueue = s.alloc.freeQueue.filter (· ≠ v) ∧
      t.alloc.releaseList = s.alloc.releaseList.filter (· ≠ v) ∧
      (∀ k : SlotId, t.pitch.slots[v][k] = if k.val < 4 then played.pitch.slots[v][k] else slotFor s p k) ∧
      (∀ u : VoiceId, u ≠ v → t.pitch.slots[u] = s.pitch.slots[u]) ∧
      { t.pitch with target := t.pitch.target.set v s.pitch.target[v], slots := t.pitch.slots.set v s.pitch.slots[v] } = s.pitch ∧
      t.vlink = s.vlink.issue v .on ∧ { t with router := s.router, alloc := s.alloc, pitch := s.pitch, vlink := s.vlink } = s) ∧
  (∀ (s : State) (v : VoiceId) (p : PartId) (e : PoolPos) (x : HeldEntry), s.entry e = some x →
    (s.part p).mode ≠ .poly → VoiceListsOk s.alloc →
    let set := x.voices ||| 1#16 <<< v.val
    let group := (List.finRange 16).filter (fun u => set.getLsbD u.val)
    let t := startFor v p e s
    group.length ≤ 8 →
      t.router = { s.router with pool := s.router.pool.set e (some { x with state := .voiced, voices := set }) } ∧
      (∀ u : VoiceId, set.getLsbD u.val = true →
        t.voice u = { (if u = v then { s.voice v with
            state := .held, owner := some p, key := some x.soundingKey, vel := some x.vel, release := none, pending := .none, damp := none }
          else s.voice u).pitchedAs (t.voice u) with unisonIndex := (t.voice u).unisonIndex } ∧
        (t.voice u).unisonIndex.val = (group.filter (· < u)).length ∧ t.pitch.unisonSize[u] = group.length ∧ isComputed t u) ∧
      (∀ u : VoiceId, u ≠ v → routedKept s t u) ∧ routedFrom s t v p ∧ onlyVoices s t set ∧
      t.alloc.gateList = s.alloc.gateList.filter (· ≠ v) ++ [v] ∧ t.alloc.freeQueue = s.alloc.freeQueue.filter (· ≠ v) ∧
      t.alloc.releaseList = s.alloc.releaseList.filter (· ≠ v) ∧ t.vlink = s.vlink.issue v .on) ∧
  (∀ (s : State) (p : PartId) (a b : List PoolPos) (e : PoolPos), s.partList p = a ++ e :: b →
    ((s.part p).priority = .last → b = [] → soundingEntry s p = some e) ∧
    ((s.part p).priority = .low → (∀ f ∈ a, keyAt s e ≤ keyAt s f) → (∀ f ∈ b, keyAt s e < keyAt s f) → soundingEntry s p = some e) ∧
    ((s.part p).priority = .high → (∀ f ∈ a, keyAt s f ≤ keyAt s e) → (∀ f ∈ b, keyAt s f < keyAt s e) → soundingEntry s p = some e)) ∧
  (∀ (s : State) (p : PartId), s.partList p = [] → soundingEntry s p = none) ∧
  (∀ c : PartCfg, (c.mode = .mono → wantedSize c = 1) ∧ (c.mode = .unison → wantedSize c = min c.unisonCount c.maxVoices)) ∧
  (∀ (s : State) (p : PartId) (e : PoolPos),
    let tails := (List.finRange 16).filter (fun u => decide ((s.voice u).owner = some p) &&
      (decide ((s.voice u).state = .sustained) || decide ((s.voice u).state = .releasing)))
    firstKey p e s = acquireGroup p e (wantedSize (s.part p)) 32
      ((tails.take (wantedSize (s.part p))).foldl (fun u v => joinGroup v p e u) s)) ∧
  (∀ (s u : State) (p : PartId) (e : PoolPos) (w k : Nat),
    (w ≤ groupCount s p e → acquireGroup p e w k s = s) ∧ (acquireOne p e s = none → acquireGroup p e w k s = s) ∧
    (groupCount s p e < w → acquireOne p e s = some u → acquireGroup p e w (k + 1) s = acquireGroup p e w k u)) ∧
  (∀ (s : State) (p : PartId) (e : PoolPos),
    let got (u : State) := acquireOne p e s = some u
    let full := (s.part p).maxVoices ≤ ownedCount s p
    let noFree := full ∨ ∀ u ∈ s.alloc.freeQueue, (s.part p).pool.getLsbD u.val = false
    let tail (u : VoiceId) := if full then (s.voice u).owner = some p else (s.part p).pool.getLsbD u.val = true
    let takable (u : VoiceId) := ∃ q, (s.voice u).owner = some q ∧
      if full then q = p else (s.part p).pool.getLsbD u.val = true ∧ (q = p ∨ (s.part q).level < (s.part p).level)
    let noTail := ∀ u ∈ s.alloc.releaseList, ¬tail u
    let candidate (st : VoiceState) (u : VoiceId) := (s.voice u).state = st ∧ takable u
    let taken (v : VoiceId) := got ((takeVoice v (.entry p e) (fun c => c.revive) s).withLink (s.link.bump .steals))
    (∀ v, ¬full → s.alloc.freeQueue.find? (fun u => (s.part p).pool.getLsbD u.val) = some v → got (startFor v p e s)) ∧
    (∀ a v b, noFree → s.alloc.releaseList = a ++ v :: b → tail v → (∀ u ∈ a, ¬tail u) → got (damped v (.entry p e) s)) ∧
    (∀ a v b st, noFree → noTail → s.alloc.gateList = a ++ v :: b → candidate st v →
      (st = .sustained ∨ (st = .held ∧ ∀ u ∈ s.alloc.gateList, ¬candidate .sustained u)) →
      ((s.part p).steal = .oldest → (∀ u ∈ a, ¬candidate st u) → taken v) ∧
      ((s.part p).steal = .quietest → (∀ u ∈ a, candidate st u → velOf s v < velOf s u) →
        (∀ u ∈ b, candidate st u → velOf s v ≤ velOf s u) → taken v)) ∧
    (noFree → noTail → (∀ u ∈ s.alloc.gateList, ¬candidate .sustained u ∧ ¬candidate .held u) → acquireOne p e s = none)) ∧
  (∀ (s : State) (p : PartId) (old new : PoolPos),
    let t := soundingChange p old new 0 s
    t.router = s.router.withEntry old ((s.entry old).map (fun z => { z with state := .waiting, voices := 0 })) ∧
    (∀ u : VoiceId, t.voice u = if (s.voice u).state = .damping ∧ (s.voice u).pending = .entry p old then
      { s.voice u with pending := .entry p new } else s.voice u) ∧
    { t.alloc with voices := s.alloc.voices } = s.alloc ∧ { t with router := s.router, alloc := s.alloc } = s) ∧
  (∀ (s : State) (p : PartId) (old new : PoolPos) (y : HeldEntry) (group : VoiceSet), s.entry new = some y → old ≠ new → group ≠ 0 →
    (∀ v : VoiceId, group.getLsbD v.val = true → v ∈ s.alloc.gateList ∧ (s.voice v).state = .held) →
    let t := soundingChange p old new group s
    let vs := (List.finRange 16).filter (fun u => group.getLsbD u.val)
    t.router = (s.router.withEntry old ((s.entry old).map (fun z => { z with state := .waiting, voices := 0 }))).withEntry new
        (some { y with state := .voiced, voices := group }) ∧
      (∀ u : VoiceId, t.voice u =
        if group.getLsbD u.val then { s.voice u with key := some y.soundingKey, vel := some y.vel }.pitchedAs (t.voice u)
        else if (s.voice u).state = .damping ∧ (s.voice u).pending = .entry p old then { s.voice u with pending := .entry p new }
        else s.voice u) ∧
      (∀ u : VoiceId, group.getLsbD u.val = true → isComputed t u ∧ routedKept s t u ∧ t.pitch.unisonSize[u] = s.pitch.unisonSize[u]) ∧
      (∀ u : VoiceId, group.getLsbD u.val = false → t.pitch.slots[u] = s.pitch.slots[u] ∧ t.pitch.target[u] = s.pitch.target[u]) ∧
      { t.pitch with target := s.pitch.target, slots := s.pitch.slots } = s.pitch ∧
      t.alloc.freeQueue = s.alloc.freeQueue ∧ t.alloc.releaseList = s.alloc.releaseList ∧
      ((s.part p).legato = true → t.alloc.gateList = s.alloc.gateList ∧ t.vlink = s.vlink) ∧
      ((s.part p).legato = false →
        t.alloc.gateList = s.alloc.gateList.filter (fun u => !group.getLsbD u.val) ++ vs ∧
        t.vlink = vs.foldl (fun k u => k.issue u .on) s.vlink) ∧
      { t with router := s.router, alloc := s.alloc, pitch := s.pitch, vlink := s.vlink } = s) ∧
  (∀ (s : State) (e : PoolPos) (y : HeldEntry), s.entry e = some y →
    (∀ v : VoiceId, y.voices.getLsbD v.val = true → v ∈ s.alloc.gateList ∧ (s.voice v).state = .held) →
    let t := groupRetrigger e s
    let vs := (List.finRange 16).filter (fun u => y.voices.getLsbD u.val)
    (∀ u : VoiceId, y.voices.getLsbD u.val = true →
        t.voice u = { s.voice u with key := some y.soundingKey, vel := some y.vel }.pitchedAs (t.voice u) ∧ isComputed t u ∧
        routedKept s t u ∧ t.pitch.unisonSize[u] = s.pitch.unisonSize[u]) ∧
      t.router = s.router ∧ onlyVoices s t y.voices ∧ t.alloc.freeQueue = s.alloc.freeQueue ∧
      t.alloc.releaseList = s.alloc.releaseList ∧
      t.alloc.gateList = s.alloc.gateList.filter (fun u => !y.voices.getLsbD u.val) ++ vs ∧
      t.vlink = vs.foldl (fun k u => k.issue u .on) s.vlink)

/-- R58: at a glide timer expiry each sounding voice off its target moves toward it by ((128 − g) × (128 − g)) div 16 + 1, or takes it where
g is 0 or the move would pass it, and is computed again: its slots 0–3 and its clamp flag are those of the computation at the new pitch, its
other fields and its slots 4–31 are kept. The other voices are left alone. The timer is restarted for 1 ms. The command is the expiry
whatever ticks are left (log entry 2). -/
def Obligations.GlideStepsEachVoice : Prop :=
  ∀ (s : State) (n : Nat), s.inReset = false → s.pitch.glideTimer = some n →
    ∃ t, exec .glideStep s = .next t ∧ t.pitch.glideTimer = some 16000 ∧
      (∀ v : VoiceId, (s.voice v).state.sounding = false ∨ (s.voice v).q = s.pitch.target[v] →
        t.voice v = s.voice v ∧ t.pitch.slots[v] = s.pitch.slots[v] ∧ t.pitch.target[v] = s.pitch.target[v]) ∧
      (∀ (v : VoiceId) (p : PartId) (k vel : Key) (q : Int), (s.voice v).state.sounding = true → (s.voice v).owner = some p →
        (s.voice v).key = some k → (s.voice v).vel = some vel → (s.voice v).q = some q →
        let target := 256 * (k.val : Int) + scaleOffset s p k
        s.pitch.target[v] = some target → q ≠ target →
        let g : Int := (s.params.values[p][(6 : ParamId)]).toNat / 32
        let move := (128 - g) * (128 - g) / 16 + 1
        let r := { s.voice v with
          q := some (if g = 0 then target else if q < target then min target (q + move) else max target (q - move)) }
        let computed := computeVoice v { s with alloc := { s.alloc with voices := s.alloc.voices.set v r } }
        t.voice v = { r with clamp := (computed.voice v).clamp } ∧ t.pitch.target[v] = some target ∧
        ∀ i : SlotId, t.pitch.slots[v][i] = if i.val < 4 then computed.pitch.slots[v][i] else s.pitch.slots[v][i]) ∧
      t.alloc.freeQueue = s.alloc.freeQueue ∧ t.alloc.gateList = s.alloc.gateList ∧ t.alloc.releaseList = s.alloc.releaseList ∧
      { t.pitch with target := s.pitch.target, slots := s.pitch.slots, glideTimer := s.pitch.glideTimer } = s.pitch ∧
      { t with alloc := s.alloc, pitch := s.pitch } = s

/-- R56 to R58, R60 to R68: a computation of a sounding voice gives slots 0–3 the codes of its three clamped pitches and its velocity
level, in one step, and sets the clamp flag where a clamp acted: the previous pitch is taken, or set to the note pitch where there is none
or the note pitch is new and glide is 0; a voice of a UNISON part takes its unison offset on both oscillators. R65: the conversion between
the codes of two breakpoints, at every pitch from 0 to 32767. R66: a VOID FILTER record is converted through the nominal codes. R55:
a SCALE write over a run of entries computes again the sounding voices whose part selects a scale of the run, and no other. -/
def Obligations.ComputationSetsSlots : Prop :=
  (∀ (s : State) (v : VoiceId) (p : PartId) (k vel : Key), (s.voice v).state.sounding = true → (s.voice v).owner = some p →
    (s.voice v).key = some k → (s.voice v).vel = some vel →
    let pm (n : ParamId) : Int := (s.params.values[p][n]).toNat
    let N := 256 * (k.val : Int) + s.pitch.scale[12 * (s.part p).scale.val + k.val % 12]'(by omega)
    let q : Int := match (s.voice v).q with
      | none => N
      | some x => if s.pitch.target[v] ≠ some N ∧ pm 6 / 32 = 0 then N else x
    let B := s.router.bend[p] * (pm 7 / 170) / 32
    let n : Int := s.pitch.unisonSize[v]
    let m : Int := 2 * ((s.voice v).unisonIndex.val : Int) - n + 1
    let spread : Int := max m (-m) * (pm 8 / 16) / (2 * (n - 1))
    let U : Int := if (s.part p).mode = .unison ∧ 2 ≤ n then (if m < 0 then -spread else if 0 < m then spread else 0) else 0
    let a := q + B + 256 * (pm 0 / 64 - 32) + (pm 1 - 2048) / 16 + U
    let b := q + B + 256 * (pm 2 / 64 - 32) + (pm 3 - 2048) / 16 + U
    let f := pm 4 * 8 + (q - 15360) * (pm 5 / 32) / 64
    let clamp (x : Int) := max 0 (min 32767 x)
    let t := computeVoice v s
    t.voice v = { s.voice v with
      q := some q, clamp := decide ((a < 0 ∨ 32767 < a) ∨ (b < 0 ∨ 32767 < b) ∨ (f < 0 ∨ 32767 < f)) } ∧
    t.pitch.slots[v][0] = convert (s.cal v .oscA).codes (clamp a) ∧ t.pitch.slots[v][1] = convert (s.cal v .oscB).codes (clamp b) ∧
    t.pitch.slots[v][2] = convert (filterCodes (s.cal v .filter)) (clamp f) ∧
    ((t.pitch.slots[v][3]).toNat : Int) = 65535 - (127 - (vel.val : Int)) * 512 * pm 10 / 4096 ∧
    (∀ i : SlotId, 4 ≤ i.val → t.pitch.slots[v][i] = s.pitch.slots[v][i]) ∧ t.pitch.target[v] = some N ∧
    (∀ u : VoiceId, u ≠ v → t.voice u = s.voice u ∧ t.pitch.slots[u] = s.pitch.slots[u]) ∧
    { t with alloc := s.alloc, pitch := s.pitch } = s) ∧
  (∀ (codes : Vector Word 17) (i : Fin 16) (f : Fin 2048),
    let low : Int := (codes[i.val]'(by omega)).toNat
    let high : Int := (codes[i.val + 1]'(by omega)).toNat
    ((convert codes (2048 * i.val + f.val)).toNat : Int) = low + ((high - low) * f.val + 1024) / 2048) ∧
  (∀ r : CalRecord, (r.valid = true → filterCodes r = r.codes) ∧
    (r.valid = false → ∀ i : Fin 17, ((filterCodes r)[i]).toNat = min 65535 (4096 * i.val))) ∧
  (∀ (s : State) (first n : Nat),
    let t := recomputeScales first n s
    let chosen (v : VoiceId) := (s.voice v).state.sounding = true ∧ ∃ p, (s.voice v).owner = some p ∧
      first < 12 * ((s.part p).scale.val + 1) ∧ 12 * (s.part p).scale.val < first + n
    (∀ v : VoiceId, (chosen v → isComputed t v ∧ t.voice v = (s.voice v).pitchedAs (t.voice v) ∧ routedKept s t v) ∧
      (¬chosen v → t.voice v = s.voice v ∧ t.pitch.slots[v] = s.pitch.slots[v] ∧ t.pitch.target[v] = s.pitch.target[v])) ∧
    { t.alloc with voices := s.alloc.voices } = s.alloc ∧
    { t.pitch with target := s.pitch.target, slots := s.pitch.slots } = s.pitch ∧ { t with alloc := s.alloc, pitch := s.pitch } = s)

/-! ## Parameters and the panel (R82, R86, R92 to R103) -/

/-- R92: a round starts at the first address with a mapped position, goes on to the first mapped input there once its settle time has
passed, and the scan period timer is restarted for the period in force; a round with no mapped position converts nothing. After the last
mapped input at an address the next mapped address settles, and after the last address the round ends, MXA kept. R93: each sample is first
passed to the filter of the control mapped at its position as the SCAN MAP stands, or to none. R94: a SCAN MAP write of one entry takes
the control from any other entry; the run counts of the control written and of the control that stood there become 0, and nothing else
changes. An entry written with its old content changes nothing. The first two commands are expiries whatever ticks are left (log entry 2).
-/
def Obligations.ScanRoundOrder : Prop :=
  (∀ (s : State) (n : Nat) (m : Fin 16) (a : Fin 6), s.inReset = false →
    let mapped := fun (m : Fin 16) (a : Fin 6) => (s.panel.scanMap[16 * a.val + m.val]'(by omega)).isSome
    let timed := { s.panel with scanTimer := some (16000 * s.store.options.scanPeriod) }
    (s.panel.scanTimer = some n → s.panel.round = .none → mapped m a = true → (∀ k < m, ∀ b, mapped k b = false) →
      exec .scanRound s = .next { s with panel := { timed with round := .settling m, roundTimer := some 80, mxa := m } }) ∧
    (s.panel.scanTimer = some n → s.panel.round = .none → (∀ k b, mapped k b = false) →
      exec .scanRound s = .next { s with panel := { timed with round := .none, roundTimer := none } }) ∧
    (s.panel.round = .settling m → mapped m a = true → (∀ b < a, mapped m b = false) →
      exec .scanSettle s = .next { s with panel := { s.panel with round := .converting m a, roundTimer := some 80 } })) ∧
  (∀ (s : State) (m : Fin 16) (a : Fin 6) (x : Word12), s.inReset = false →
    let at' (k : Fin 16) (b : Fin 6) := s.panel.scanMap[16 * b.val + k.val]'(by omega)
    let mapped (k : Fin 16) (b : Fin 6) := (at' k b).isSome
    let leaves (c : Instr) (u : State) :=
      (∀ (k : Fin 16) (b : Fin 6), m < k → mapped k b = true → (∀ j, m < j → j < k → ∀ b, mapped j b = false) →
        exec c s = .next { u with panel := { u.panel with round := .settling k, roundTimer := some 80, mxa := k } }) ∧
      ((∀ k, m < k → ∀ b, mapped k b = false) →
        exec c s = .next { u with panel := { u.panel with round := .none, roundTimer := none } })
    let sampled := match at' m a with
      | some c => filterSample c x s
      | none => s
    (s.panel.round = .settling m → (∀ b, mapped m b = false) → leaves .scanSettle s) ∧
    (s.panel.round = .converting m a → (∀ b, a < b → mapped m b = false) → leaves (.scanSample x) sampled) ∧
    (∀ b, s.panel.round = .converting m a → a < b → mapped m b = true → (∀ d, a < d → d < b → mapped m d = false) →
      exec (.scanSample x) s = .next { sampled with panel := { sampled.panel with round := .converting m b, roundTimer := some 80 } })) ∧
  (∀ (s : State) (i : Fin 96) (c : Option ControlId),
    let t := writeScanEntry i c s
    (s.panel.scanMap[i] = c → t = s) ∧
    (s.panel.scanMap[i] ≠ c →
      t.panel.scanMap[i] = c ∧
      (∀ k : Fin 96, k ≠ i → t.panel.scanMap[k] = if c ≠ none ∧ s.panel.scanMap[k] = c then none else s.panel.scanMap[k]) ∧
      (∀ d : ControlId, t.panel.states[d] =
        if c = some d ∨ s.panel.scanMap[i] = some d then { s.panel.states[d] with runCount := 0 } else s.panel.states[d]) ∧
      { t.panel with scanMap := s.panel.scanMap, states := s.panel.states } = s.panel ∧ { t with panel := s.panel } = s))

/-- R93, R100: the sample of a primed KNOB goes to the filter of the control mapped at its position. In band it clears the run count; out
of band it lengthens the run; neither changes anything else but the round's place. R102: a run that reaches P is an accepted change at the
new reported value, bound or unbound. Here another mapped input follows at the address. -/
def Obligations.KnobFilter : Prop :=
  ∀ (s : State) (m : Fin 16) (a b : Fin 6) (c : ControlId) (x r : Word12), s.inReset = false →
    s.panel.round = .converting m a → s.panel.scanMap[16 * a.val + m.val]'(by omega) = some c →
    a < b → (s.panel.scanMap[16 * b.val + m.val]'(by omega)).isSome = true →
    (∀ d : Fin 6, a < d → d < b → (s.panel.scanMap[16 * d.val + m.val]'(by omega)).isSome = false) →
    s.panel.controls[c].type = .knob → s.panel.states[c].reported = some r →
    let distance := max x.toNat r.toNat - min x.toNat r.toNat
    let moved := { s.panel with round := .converting m b, roundTimer := some 80 }
    let P := (#v[1, 2, 3, 4, 6, 8, 12, 16] : Vector Nat 8)[s.panel.controls[c].persistence]
    (distance ≤ s.panel.controls[c].deadBand.toNat → exec (.scanSample x) s = .next { s with panel := { moved with
      states := s.panel.states.set c { s.panel.states[c] with runCount := 0 } } }) ∧
    (s.panel.controls[c].deadBand.toNat < distance → s.panel.states[c].runCount + 1 < P →
      exec (.scanSample x) s = .next { s with panel := { moved with
        states := s.panel.states.set c { s.panel.states[c] with runCount := s.panel.states[c].runCount + 1 } } }) ∧
    (s.panel.controls[c].deadBand.toNat < distance → P ≤ s.panel.states[c].runCount + 1 →
      let w := acceptChange c x { s with panel := { s.panel with states := s.panel.states.set c { reported := some x, runCount := 0 } } }
      exec (.scanSample x) s = .next { w with panel := { w.panel with round := .converting m b, roundTimer := some 80 } }) ∧
    (s.panel.controls[c].deadBand.toNat < distance → P ≤ s.panel.states[c].runCount + 1 →
      s.panel.controls[c].binding = none → s.panel.controls[c].report = true → s.store.options.panelReport = true →
      s.req.phase = .ready →
      exec (.scanSample x) s = .next { s with
        panel := { moved with states := s.panel.states.set c { reported := some x, runCount := 0 } }
        link := noticedLink (.controlChange c x false) s.link })

/-- R99, R101: the levels of a SWITCH, its priming and its filter, and the priming of a KNOB. R89, R99: a control bound with PICKUP is
evaluated at once when it is primed, an unbound or JUMP one is not. R102: a run that reaches P is an accepted change at the new reported
value. -/
def Obligations.SwitchFilterAndPriming : Prop :=
  ∀ (s : State) (c : ControlId) (x : Word12),
    let put (y : ControlState) := { s with panel := { s.panel with states := s.panel.states.set c y } }
    let run := s.panel.states[c].runCount
    let P := (#v[1, 2, 3, 4, 6, 8, 12, 16] : Vector Nat 8)[s.panel.controls[c].persistence]
    let primes (v : Word12) :=
      (s.panel.controls[c].binding = none ∨ s.panel.controls[c].takeover = .jump →
        filterSample c x s = put { reported := some v, runCount := run }) ∧
      (∀ p n, s.panel.controls[c].binding = some (p, n) → s.panel.controls[c].takeover = .pickup →
        filterSample c x s = evaluate c (put { reported := some v, runCount := run }))
    (s.panel.states[c].reported = none → s.panel.controls[c].type = .knob → primes x) ∧
    (s.panel.states[c].reported = none → s.panel.controls[c].type = .switch →
      (2867 ≤ x.toNat → primes 4095) ∧ (x.toNat ≤ 1228 → primes 0) ∧
      (1228 < x.toNat → x.toNat < 2867 → filterSample c x s = s)) ∧
    (∀ r, s.panel.states[c].reported = some r → s.panel.controls[c].type = .switch →
      let opposite := (r = 0 ∧ 2867 ≤ x.toNat) ∨ (r = 4095 ∧ x.toNat ≤ 1228)
      let changed := put { reported := some (if r = 0 then 4095 else 0), runCount := 0 }
      ((r = 0 ∨ r = 4095) → ¬opposite → filterSample c x s = put { reported := some r, runCount := 0 }) ∧
      (opposite → run + 1 < P → filterSample c x s = put { reported := some r, runCount := run + 1 }) ∧
      (opposite → P ≤ run + 1 → filterSample c x s = acceptChange c (if r = 0 then 4095 else 0) changed) ∧
      (opposite → P ≤ run + 1 → s.panel.controls[c].binding = none → s.panel.controls[c].report = false →
        filterSample c x s = changed))

/-- R88, R89: an evaluation of a primed control bound with PICKUP compares its scaled value with the parameter's value: within the
tolerance its entry is removed; outside, its entry is updated in place or made at the tail, or, in a full table, not made and counted.
R90, R103: an accepted change of a detached control that does not cross its entry's target changes nothing, and is reported as detached;
one that crosses it removes the entry and writes the scaled value. R83, R88, R102: one of an attached control, of JUMP takeover or without
an entry, writes the scaled value, evaluates nothing, and is reported as not detached; the notice is offered where both report settings
are on. R71, R82: what such a write hands on. R97: a CONTROL write stores the entry; a new type gives a primed control that becomes a
SWITCH 0 or 4095, a new type or persistence code clears the run count. R98: the other control bound to the same pair is unbound; the entry
of a control that is unbound, and of one that goes from PICKUP to JUMP, is removed; a primed PICKUP control with a new binding, takeover
or dead-band is evaluated. That the type is changed before the dead-band is evaluated is the model's choice (log entry 12). A CONTROL
write writes no parameter. -/
def Obligations.PickupFollowsTheControl : Prop :=
  (∀ (s : State) (c : ControlId) (p : PartId) (n : ParamId) (r : Word12), s.panel.controls[c].binding = some (p, n) →
    s.panel.controls[c].takeover = .pickup → s.panel.states[c].reported = some r →
    let d := s.params.desc[n]
    let span : Int := (d.max.toNat : Int) - d.min.toNat + 1
    let scaled (x : Word12) : Int := d.min.toNat + x.toNat * span / 4096
    let tol : Int := s.panel.controls[c].deadBand.toNat * span / 4096
    let target := s.params.values[p][n]
    let distance : Int := max (scaled r - target.toNat) (target.toNat - scaled r)
    let entry : PickupEntry :=
      { control := c, part := p, param := n, target := target, direction := if scaled r < target.toNat then .up else .down }
    let is (l : List PickupEntry) := evaluate c s = s.withParams { s.params with pickup := l }
    (distance ≤ tol → is (s.params.pickup.filter (fun e => e.control ≠ c))) ∧
    (tol < distance → (∃ e ∈ s.params.pickup, e.control = c) →
      is (s.params.pickup.map (fun e => if e.control = c then entry else e))) ∧
    (tol < distance → (∀ e ∈ s.params.pickup, e.control ≠ c) → s.params.pickup.length < 32 → is (s.params.pickup ++ [entry])) ∧
    (tol < distance → (∀ e ∈ s.params.pickup, e.control ≠ c) → 32 ≤ s.params.pickup.length →
      evaluate c s = s.withLink (s.link.bump .pickupOverflows)) ∧
    (∀ (e : PickupEntry) (x : Word12), s.params.pickup.find? (fun e => e.control = c) = some e → s.req.phase = .ready →
      let told (held : Bool) (u : State) := if s.panel.controls[c].report = true ∧ s.store.options.panelReport = true then
        u.withLink (noticedLink (.controlChange c x held) u.link) else u
      let crosses := (e.direction = .up ∧ (e.target.toNat : Int) ≤ scaled x) ∨ (e.direction = .down ∧ scaled x ≤ e.target.toNat)
      (¬crosses → acceptChange c x s = told true s) ∧
      (crosses → acceptChange c x s = told false (applyWrite p n (scaled x).toNat
        (s.withParams { s.params with pickup := s.params.pickup.filter (fun e => e.control ≠ c) }))))) ∧
  (∀ (s : State) (c : ControlId) (p : PartId) (n : ParamId) (x : Word12), s.panel.controls[c].binding = some (p, n) →
    s.panel.controls[c].takeover = .jump ∨ s.params.pickup.find? (fun e => e.control = c) = none → s.req.phase = .ready →
    let d := s.params.desc[n]
    let u := applyWrite p n (d.min.toNat + x.toNat * ((d.max.toNat : Int) - d.min.toNat + 1) / 4096).toNat s
    acceptChange c x s = if s.panel.controls[c].report = true ∧ s.store.options.panelReport = true then
      u.withLink (noticedLink (.controlChange c x false) u.link) else u) ∧
  (∀ (s : State) (p : PartId) (n : ParamId) (v : Nat), s.params.desc[n].min ≤ s.params.desc[n].max →
    let value : Word12 := BitVec.ofNat 12 (max (s.params.desc[n].min).toNat (min v (s.params.desc[n].max).toNat))
    let edited := { s with params := { s.params with
      values := s.params.values.set p (s.params.values[p].set n value)
      editCount := s.params.editCount.set p (s.params.editCount[p] + 1), modified := s.params.modified.set p true } }
    let t := applyWrite p n v s
    (computesVoices n → recomputed edited t (soundsFor s p)) ∧
    (¬computesVoices n → n.val ≤ 10 ∨ s.params.desc[n].routed = none → t = edited) ∧
    (∀ k : SlotId, 11 ≤ n.val → s.params.desc[n].routed = some k → (∀ m : ParamId, m ≠ n → s.params.desc[m].routed ≠ some k) →
      t = { edited with pitch := { s.pitch with slots := Vector.ofFn (fun u : VoiceId =>
        if soundsFor s p u then s.pitch.slots[u].set k (BitVec.ofNat 16 (value.toNat * 16 + value.toNat / 256))
        else s.pitch.slots[u]) } })) ∧
  (∀ (s : State) (c : ControlId) (k : ControlCfg),
    let t := writeControl c k s
    let old := s.panel.controls[c]
    let taken (d : ControlId) := k.binding ≠ none ∧ s.panel.controls[d].binding = k.binding
    t.panel.controls[c] = k ∧
    (∀ d : ControlId, d ≠ c → t.panel.states[d] = s.panel.states[d] ∧
      (taken d → t.panel.controls[d] = { s.panel.controls[d] with binding := none } ∧ pickupOf t d = none) ∧
      (¬taken d → t.panel.controls[d] = s.panel.controls[d] ∧ pickupOf t d = pickupOf s d)) ∧
    (t.panel.states[c]).runCount = (if old.type = k.type ∧ old.persistence = k.persistence then s.panel.states[c].runCount else 0) ∧
    (t.panel.states[c]).reported = (if old.type ≠ k.type ∧ k.type = .switch then
      (s.panel.states[c].reported).map (fun r => if 2048 ≤ r.toNat then 4095 else 0) else s.panel.states[c].reported) ∧
    (old.binding ≠ k.binding → k.binding = none ∨ k.takeover = .jump ∨ (t.panel.states[c]).reported = none → pickupOf t c = none) ∧
    (old.takeover = .pickup → k.takeover = .jump → pickupOf t c = none) ∧
    (old.binding = k.binding → old.takeover = k.takeover → old.deadBand = k.deadBand → pickupOf t c = pickupOf s c) ∧
    (∀ (p : PartId) (n : ParamId) (r : Word12), k.binding = some (p, n) → k.takeover = .pickup →
      (t.panel.states[c]).reported = some r → old.binding ≠ k.binding ∨ old.takeover = .jump ∨ old.deadBand ≠ k.deadBand →
      let d := s.params.desc[n]
      let span : Int := (d.max.toNat : Int) - d.min.toNat + 1
      let scaled : Int := d.min.toNat + r.toNat * span / 4096
      let tol : Int := k.deadBand.toNat * span / 4096
      let target : Int := (s.params.values[p][n]).toNat
      (max (scaled - target) (target - scaled) ≤ tol → pickupOf t c = none) ∧
      (tol < max (scaled - target) (target - scaled) → s.params.pickup.length < 32 → pickupOf t c = some
        { control := c, part := p, param := n, target := s.params.values[p][n], direction := if scaled < target then .up else .down })) ∧
    { t.panel with controls := s.panel.controls, states := s.panel.states } = s.panel ∧
    { t.params with pickup := s.params.pickup } = s.params ∧ { t.link with counters := s.link.counters } = s.link ∧
    { t with panel := s.panel, params := s.params, link := s.link } = s)

/-- R82, R86: a write clamps the value to the descriptor's range, counts one edit (wrapping) and sets modified, whether or not the value
differs, and touches no other parameter, part, window, name or table. R71: a write of PM00 to PM05, PM08 or PM10 has the sounding voices
of the part computed again; R69: a routed parameter sets its slot on them; any other is handed to nothing. The PICKUP control bound to the
parameter is evaluated. R69: what a routed slot takes from a part. R77: a NAME write sets the name and counts as an edit. R80: a
DESCRIPTOR write that changes a routing takes the slot from any other parameter and sets the slot left and the slot taken again on the
sounding voices, from their owners' values, 0 where nothing is routed; it changes no value, edit count or pickup entry. R81: one that
changes min or max stores them and clamps each part's value, a value that changes counting as a write, its recomputations included, and
each primed control bound to the parameter with PICKUP is evaluated. -/
def Obligations.ParameterWrite : Prop :=
  (∀ (s : State) (p : PartId) (n : ParamId) (v : Nat), s.params.desc[n].min ≤ s.params.desc[n].max →
    let t := writeParam p n v s
    (t.params.values[p][n]).toNat = max (s.params.desc[n].min).toNat (min v (s.params.desc[n].max).toNat) ∧
    (∀ (q : PartId) (m : ParamId), ¬(q = p ∧ m = n) → t.params.values[q][m] = s.params.values[q][m]) ∧
    t.params.editCount = s.params.editCount.set p (s.params.editCount[p] + 1) ∧
    t.params.modified = s.params.modified.set p true ∧ t.params.window = s.params.window ∧ t.params.names = s.params.names ∧
    t.params.desc = s.params.desc ∧ t.panel = s.panel ∧ t.store = s.store ∧ t.tuner = s.tuner ∧ t.vlink = s.vlink ∧
    t.router = s.router ∧ t.req = s.req ∧
    let value : Word12 := BitVec.ofNat 12 (max (s.params.desc[n].min).toNat (min v (s.params.desc[n].max).toNat))
    let edited := { s with params := { s.params with
      values := s.params.values.set p (s.params.values[p].set n value)
      editCount := s.params.editCount.set p (s.params.editCount[p] + 1), modified := s.params.modified.set p true } }
    let evaluates (c : ControlId) := s.panel.controls[c].binding = some (p, n) ∧ s.panel.controls[c].takeover = .pickup ∧
      s.panel.states[c].reported ≠ none
    ∀ w : State, ((∀ c, ¬evaluates c) ∧ w = edited) ∨ (∃ c, evaluates c ∧
        (∀ d : ControlId, s.panel.controls[d].binding = some (p, n) → d = c) ∧ w = evaluate c edited) →
      (computesVoices n → recomputed w t (soundsFor s p)) ∧
      (¬computesVoices n → n.val ≤ 10 ∨ s.params.desc[n].routed = none → t = w) ∧
      (∀ k : SlotId, 11 ≤ n.val → s.params.desc[n].routed = some k → (∀ m : ParamId, m ≠ n → s.params.desc[m].routed ≠ some k) →
        t = { w with pitch := { s.pitch with slots := Vector.ofFn (fun u : VoiceId =>
          if soundsFor s p u then s.pitch.slots[u].set k (BitVec.ofNat 16 (value.toNat * 16 + value.toNat / 256))
          else s.pitch.slots[u]) } })) ∧
  (∀ (s : State) (p : PartId) (k : SlotId),
    (∀ n : ParamId, s.params.desc[n].routed = some k → (∀ m : ParamId, m ≠ n → s.params.desc[m].routed ≠ some k) →
      (slotFor s p k).toNat = (s.params.values[p][n]).toNat * 16 + (s.params.values[p][n]).toNat / 256) ∧
    ((∀ m : ParamId, s.params.desc[m].routed ≠ some k) → slotFor s p k = 0)) ∧
  (∀ (s : State) (p : PartId) (name : Vector Byte 12), writeName p name s = { s with params := { s.params with
    names := s.params.names.set p name
    editCount := s.params.editCount.set p (s.params.editCount[p] + 1), modified := s.params.modified.set p true } }) ∧
  (∀ (s : State) (n : ParamId) (d : Descriptor), s.params.desc[n].min = d.min → s.params.desc[n].max = d.max →
    let old := s.params.desc[n].routed
    let t := writeDescriptor n d s
    (old = d.routed → t = s) ∧
    (old ≠ d.routed →
      t.params.desc[n] = d ∧
      (∀ m : ParamId, m ≠ n → t.params.desc[m] =
        if d.routed ≠ none ∧ s.params.desc[m].routed = d.routed then { s.params.desc[m] with routed := none } else s.params.desc[m]) ∧
      { t.params with desc := s.params.desc } = s.params ∧
      (∀ (v : VoiceId) (p : PartId) (k : SlotId), (s.voice v).state.sounding = true → (s.voice v).owner = some p →
        (d.routed = some k → (t.pitch.slots[v][k]).toNat = (s.params.values[p][n]).toNat * 16 + (s.params.values[p][n]).toNat / 256) ∧
        (old = some k → (∀ m : ParamId, m ≠ n → s.params.desc[m].routed ≠ some k) → t.pitch.slots[v][k] = 0) ∧
        (old ≠ some k → d.routed ≠ some k → t.pitch.slots[v][k] = s.pitch.slots[v][k])) ∧
      (∀ v : VoiceId, (s.voice v).state.sounding = false → t.pitch.slots[v] = s.pitch.slots[v]) ∧
      { t.pitch with slots := s.pitch.slots } = s.pitch ∧ { t with params := s.params, pitch := s.pitch } = s)) ∧
  (∀ (s : State) (n : ParamId) (d : Descriptor), s.params.desc[n].routed = d.routed → d.min ≤ d.max →
    s.params.desc[n].min ≠ d.min ∨ s.params.desc[n].max ≠ d.max →
    let t := writeDescriptor n d s
    let clamped (p : PartId) := max d.min.toNat (min (s.params.values[p][n]).toNat d.max.toNat)
    t.params.desc = s.params.desc.set n d ∧
    (∀ p : PartId, (t.params.values[p][n]).toNat = clamped p ∧
      (∀ m : ParamId, m ≠ n → t.params.values[p][m] = s.params.values[p][m]) ∧
      (clamped p = (s.params.values[p][n]).toNat → t.params.editCount[p] = s.params.editCount[p] ∧
        t.params.modified[p] = s.params.modified[p]) ∧
      (clamped p ≠ (s.params.values[p][n]).toNat → t.params.editCount[p] = s.params.editCount[p] + 1 ∧ t.params.modified[p] = true)) ∧
    t.params.names = s.params.names ∧ t.params.window = s.params.window ∧
    (let ranged := { s with params := { s.params with desc := s.params.desc.set n d, values := t.params.values } }
     let written (u : VoiceId) := ∃ p, soundsFor s p u = true ∧ clamped p ≠ (s.params.values[p][n]).toNat
     ∀ u : VoiceId, (written u → computesVoices n → computedFrom ranged t u) ∧ (¬written u ∨ ¬computesVoices n → t.voice u = s.voice u ∧
        t.pitch.target[u] = s.pitch.target[u] ∧ ∀ k : SlotId, k.val < 4 → d.routed ≠ some k → t.pitch.slots[u][k] = s.pitch.slots[u][k])) ∧
    (∀ (c : ControlId) (p : PartId) (r : Word12), s.panel.controls[c].binding = some (p, n) → s.panel.controls[c].takeover = .pickup →
      s.panel.states[c].reported = some r → (∀ b : ControlId, s.panel.controls[b].binding = some (p, n) → b = c) →
      let span : Int := (d.max.toNat : Int) - d.min.toNat + 1
      let scaled : Int := d.min.toNat + r.toNat * span / 4096
      let tol : Int := s.panel.controls[c].deadBand.toNat * span / 4096
      let distance : Int := max (scaled - clamped p) (clamped p - scaled)
      (distance ≤ tol → pickupOf t c = none) ∧
      (tol < distance → ∀ e, pickupOf t c = some e → e =
        { control := c, part := p, param := n, target := t.params.values[p][n], direction := if scaled < clamped p then .up else .down })) ∧
    t.panel = s.panel ∧ t.router = s.router ∧ t.store = s.store ∧ t.tuner = s.tuner ∧ t.vlink = s.vlink ∧ t.req = s.req ∧
    { t.link with counters := s.link.counters } = s.link)

/-! ## The serial memory and the store queue (R106 to R122) -/

/-- R107, R108: the operation at the head starts on an idle port, a read or its first page; a transferred page is polled under the 10 ms
timeout. R110, R187: when room is left, the lowest-numbered part's pending select is placed at the tail with its mark and becomes
empty; a full queue keeps it. The placement is a step of its own (log entry 9). -/
def Obligations.StoreQueueMoves : Prop :=
  (∀ (s : State) (e : StoreEntry) (rest : List StoreEntry) (k : Nat), s.inReset = false → s.store.queue = e :: rest →
      (s.store.port = .idle → e.op.image.isSome = true →
        exec .storeOpStart s = .next { s with store := { s.store with port := .writing 0 } }) ∧
      (s.store.port = .idle → e.op.image = none → e.op ≠ .calLoad →
        exec .storeOpStart s = .next { s with store := { s.store with port := .reading } }) ∧
      (s.store.port = .writing k →
        exec .pageTransferDone s = .next { s with store := { s.store with port := .polling k, pageTimer := some (10 * 16000) } })) ∧
  (∀ (s : State) (p : PartId) (x : PendingSelect), s.inReset = false → s.store.selects[p] = some x →
      (s.store.queue.length = 3 → (∀ q : PartId, q < p → s.store.selects[q] = none) →
        exec .pendingSelectPlaced s = .next { s with store := { s.store with
          queue := s.store.queue ++ [{ op := .recallRead p x.slot x.timing, marked := x.marked }]
          selects := s.store.selects.set p none } }) ∧
      (4 ≤ s.store.queue.length → exec .pendingSelectPlaced s = .next s))

/-- R106, R107, R115: a page that completes holds its 64 bytes of the record and every other byte its old value; the next page then starts,
and after the last one of a PATCH WRITE the window of the part is its patch slot, modified is cleared where the edit count is still E,
STORE DONE is offered and the operation leaves the queue. R117: the pages of a SETUP SAVE and of a CAL SAVE, 32 each, are written in the
same way from the copies made at the acceptance, and after the last one STORE DONE is offered and the operation leaves the queue. -/
def Obligations.PatchWritePages : Prop :=
  (∀ (s : State) (p : PartId) (slot : Byte) (values : Vector Word12 48) (name : Vector Byte 12) (E : Word) (marked : Bool)
    (rest : List StoreEntry), s.inReset = false → s.req.phase = .ready → s.store.mem.wf = true → s.store.memFitted = true →
    s.store.queue = { op := .patchWrite p slot values name E, marked := marked } :: rest →
    let base := 0x1000 + 128 * slot.toNat
    let after (k : Nat) (t : State) := ∀ a, t.store.mem.read a =
      if base + 64 * k ≤ a ∧ a < base + 64 * k + 64 then (patchBytes name values).getD (a - base) 0 else s.store.mem.read a
    (s.store.port = .polling 0 → ∃ t, exec .pageWriteDone s = .next t ∧ after 0 t ∧
      t = { s with store := { s.store with port := .writing 1, pageTimer := none, mem := t.store.mem } }) ∧
    (s.store.port = .polling 1 → ∃ t, exec .pageWriteDone s = .next t ∧ after 1 t ∧
      t = { s with
        store := { s.store with queue := rest, port := .idle, pageTimer := none, mem := t.store.mem }
        params := { s.params with
          window := s.params.window.set p (some slot)
          modified := if s.params.editCount[p] = E then s.params.modified.set p false else s.params.modified }
        link := noticedLink (.storeDone .patch (some p) (some slot)) s.link })) ∧
  (∀ (s : State) (op : StoreOp) (base k : Nat) (bytes : List Byte) (kind : StoreKind) (marked : Bool) (rest : List StoreEntry),
    s.inReset = false → s.req.phase = .ready → s.store.mem.wf = true → s.store.memFitted = true →
    s.store.queue = { op := op, marked := marked } :: rest →
    (∃ tables, op = .setupSave tables ∧ base = 0 ∧ bytes = setupBytes tables ∧ kind = .setup) ∨
      (∃ records, op = .calSave records ∧ base = 0x800 ∧ bytes = calBlockBytes records ∧ kind = .cal) →
    s.store.port = .polling k → k < 32 →
    ∃ t, exec .pageWriteDone s = .next t ∧
      (∀ a, t.store.mem.read a = if base + 64 * k ≤ a ∧ a < base + 64 * k + 64 then bytes.getD (a - base) 0 else s.store.mem.read a) ∧
      (k < 31 → t = { s with store := { s.store with port := .writing (k + 1), pageTimer := none, mem := t.store.mem } }) ∧
      (k = 31 → t = { s with
        store := { s.store with queue := rest, port := .idle, pageTimer := none, mem := t.store.mem }
        link := noticedLink (.storeDone kind none none) s.link }))

/-- R116, R117: a page timeout of a PATCH WRITE, a SETUP SAVE or a CAL SAVE abandons the operation: STORE FAULT is offered and counted,
the operation leaves the queue, window and modified are as they were, no byte outside the failing page changes, and each bit of the
failing page is old or new (which of them, is a free value: log entry 5). -/
def Obligations.PageTimeoutFails : Prop :=
  let mixed (s t : State) (first : Nat) (bytes : List Byte) (base : Nat) := ∀ a : Nat,
    (¬(first ≤ a ∧ a < first + 64) → t.store.mem.read a = s.store.mem.read a) ∧
    (first ≤ a → a < first + 64 → ∀ i : Nat, (t.store.mem.read a).getLsbD i = (s.store.mem.read a).getLsbD i ∨
      (t.store.mem.read a).getLsbD i = (bytes.getD (a - base) 0).getLsbD i)
  (∀ (s : State) (p : PartId) (slot : Byte) (values : Vector Word12 48) (name : Vector Byte 12) (E : Word) (marked : Bool)
    (rest : List StoreEntry) (k : Nat), s.inReset = false → s.req.phase = .ready → s.store.mem.wf = true → k < 2 →
    s.store.port = .polling k → s.store.queue = { op := .patchWrite p slot values name E, marked := marked } :: rest →
    let base := 0x1000 + 128 * slot.toNat
    ∃ t, exec .pageTimeout s = .next t ∧ mixed s t (base + 64 * k) (patchBytes name values) base ∧
      t = { s with
        store := { s.store with queue := rest, port := .idle, pageTimer := none, mem := t.store.mem }
        link := (noticedLink (.storeFault .patch (some p) (some slot)) s.link).bump .storeFaults
        freeCount := s.freeCount + 1 }) ∧
  (∀ (s : State) (op : StoreOp) (base k : Nat) (bytes : List Byte) (kind : StoreKind) (marked : Bool) (rest : List StoreEntry),
    s.inReset = false → s.req.phase = .ready → s.store.mem.wf = true → s.store.queue = { op := op, marked := marked } :: rest →
    (∃ tables, op = .setupSave tables ∧ base = 0 ∧ bytes = setupBytes tables ∧ kind = .setup) ∨
      (∃ records, op = .calSave records ∧ base = 0x800 ∧ bytes = calBlockBytes records ∧ kind = .cal) →
    s.store.port = .polling k → k < 32 →
    ∃ t, exec .pageTimeout s = .next t ∧ mixed s t (base + 64 * k) bytes base ∧
      t = { s with
        store := { s.store with queue := rest, port := .idle, pageTimer := none, mem := t.store.mem }
        link := (noticedLink (.storeFault kind none none) s.link).bump .storeFaults
        freeCount := s.freeCount + 1 })

/-- R111, R112: the end of a recall read of a record without its marker is a fault of reason BLANK, and of one with a wrong format or
check a fault of reason CHECK, which leave the part and its staged record as they were; a good record read with NEXT NOTE is staged. R113:
a good record read with NOW is committed at once, as stated below, which leaves nothing staged, and RECALL DONE is offered as committed.
RECALLS is counted for either. The operation leaves the queue. -/
def Obligations.RecallReadEnds : Prop :=
  ∀ (s : State) (p : PartId) (slot : Byte) (timing : Timing) (marked : Bool) (rest : List StoreEntry) (bytes : List Byte),
    s.inReset = false → s.req.phase = .ready → s.store.port = .reading →
    s.store.queue = { op := .recallRead p slot timing, marked := marked } :: rest →
    bytes = s.store.readRun (0x1000 + 128 * slot.toNat) 128 →
    let left := { s.store with queue := rest, port := .idle, pageTimer := none }
    let fault (check : Bool) := exec .recallReadEnd s = .next { s with
      store := left, link := (noticedLink (.recallFault p slot check) s.link).bump .recallFaults }
    (bytes.head? ≠ some 0x5A → fault false) ∧
    (bytes.head? = some 0x5A → (bytes[1]? ≠ some 1 ∨ checkMatches bytes = false) → fault true) ∧
    (timing = .nextNote → bytes.head? = some 0x5A → bytes[1]? = some 1 → checkMatches bytes = true →
      ∃ r, staged? slot bytes = some r ∧ exec .recallReadEnd s = .next { s with
        store := { left with staging := s.store.staging.set p (some r) }
        link := noticedLink (.recallDone p slot false) (s.link.bump .recalls) }) ∧
    (timing = .now → bytes.head? = some 0x5A → bytes[1]? = some 1 → checkMatches bytes = true →
      ∃ r, staged? slot bytes = some r ∧ r.slot = slot ∧
        let u := recallCommit p r (s.withLink (s.link.bump .recalls))
        exec .recallReadEnd s = .next { u with
          store := { left with staging := s.store.staging.set p none }
          link := noticedLink (.recallDone p slot true) u.link })

/-- R85, R113: the commit a NOTE ON asks for applies the staged record of the part: its values clamped, its name, one edit, modified
cleared, the window its patch slot; the buffer is emptied and RECALL DONE offered. With the buffer empty nothing happens. Where no voice
of the part sounds and no control is bound that is all. R85: each sounding voice of the part is computed once and takes its 28 routed
slots, and each PICKUP control bound to a parameter of the part is evaluated, C00 first. R113: a NOTE OFF, BEND, CONTROL, SUSTAIN, ALL OFF
or PATCH SELECT commits nothing. -/
def Obligations.NextNoteCommits : Prop :=
  (∀ (s : State) (p : PartId) (r : Staged), s.inReset = false → s.req.phase = .ready →
    (s.store.staging[p] = none → exec (.nextNoteCommit p) s = .next s) ∧
    (s.store.staging[p] = some r → (∀ v, soundsFor s p v = false) → (∀ c : ControlId, s.panel.controls[c].binding = none) →
      exec (.nextNoteCommit p) s = .next { s with
        params := { s.params with
          values := s.params.values.set p (Vector.ofFn (fun n : ParamId =>
            s.params.desc[n].clamp (min 4095 (r.values[n]).toNat)))
          names := s.params.names.set p (r.name.map (fun b => if 0x20 ≤ b.toNat ∧ b.toNat ≤ 0x7E then b else 0x20))
          editCount := s.params.editCount.set p (s.params.editCount[p] + 1)
          modified := s.params.modified.set p false
          window := s.params.window.set p (some r.slot) }
        store := { s.store with staging := s.store.staging.set p none }
        link := noticedLink (.recallDone p r.slot true) s.link }) ∧
    (s.store.staging[p] = some r →
      let u := recallCommit p r s
      exec (.nextNoteCommit p) s = .next { u with
        store := { s.store with staging := s.store.staging.set p none }
        link := noticedLink (.recallDone p r.slot true) u.link })) ∧
  (∀ (s : State) (p : PartId) (r : Staged),
    let committed := { s with params := { s.params with
      values := s.params.values.set p (Vector.ofFn (fun n : ParamId => s.params.desc[n].clamp (min 4095 (r.values[n]).toNat)))
      names := s.params.names.set p (r.name.map (fun b => if 0x20 ≤ b.toNat ∧ b.toNat ≤ 0x7E then b else 0x20))
      editCount := s.params.editCount.set p (s.params.editCount[p] + 1)
      modified := s.params.modified.set p false
      window := s.params.window.set p (some r.slot) } }
    let bound := (List.finRange 96).filter (fun c : ControlId => (s.panel.controls[c].binding).any (fun b => b.1 = p))
    let w := bound.foldl (fun u c => evaluate c u) committed
    let t := recallCommit p r s
    (∀ v : VoiceId, soundsFor s p v = true → computedFrom committed t v ∧ routedFrom committed t v p) ∧
    (∀ v : VoiceId, soundsFor s p v = false → voiceKept s t v) ∧
    { t.alloc with voices := s.alloc.voices } = s.alloc ∧
    { t.pitch with target := s.pitch.target, slots := s.pitch.slots } = s.pitch ∧ { t with alloc := s.alloc, pitch := s.pitch } = w) ∧
  (∀ (s : State) (x y z : Byte) (u : Word), actsOnFrames s →
    let keeps (c : Instr) := ∃ t, exec c s = .next t ∧ t.store.staging = s.store.staging
    keeps (.noteOff x y) ∧ keeps (.bend x u) ∧ keeps (.controlFine x y z) ∧ keeps (.controlCoarse x y z) ∧ keeps (.sustain x y) ∧
    keeps (.allOff x) ∧ keeps (.patchSelect x y))

/-- R120, R121: a bad setup block leaves the tables at their defaults and names all nine of them, and the phase becomes CAL. Of a good one
each table that passes its checks is taken, at its place of R196, and the others are named and keep their defaults; each parameter value is
then clamped to its descriptor. With the option no, CAL LOAD reads nothing, every record stays as it is, the result is NONE and START DONE
is the first notice of READY; that it needs no STORE_OP_START then is the model's choice (log entry 20). With the option yes a good
calibration block replaces every record and a bad one is a FAULT that replaces none; the voices are IDLE or BENCHED by their records and
the FILTER records that are VOID play through the nominal one. R122: the entry into READY offers START DONE, queues the recalls of
the options in part order, and starts a FORCED run over the voices the options name, which become TUNING at once. -/
def Obligations.StartUpLoads : Prop :=
  (∀ (s : State) (marked : Bool) (rest : List StoreEntry), s.inReset = false →
    let b := s.store.readRun 0 2048
    (s.store.queue = { op := .setupLoad, marked := marked } :: rest → s.store.port = .reading →
      blockGood 0x5C b = false →
      exec .setupLoad s = .next { s with
        store := { s.store with
          queue := rest, port := .idle, pageTimer := none, setupResult := .defaults, defaultTables := 0x01AD23 }
        req := { s.req with phase := .cal } }) ∧
    (s.store.queue = { op := .setupLoad, marked := marked } :: rest → s.store.port = .reading →
      blockGood 0x5C b = true →
      let zones := table? 8 (decodeRun (fun _ => zone?) 8 0 (slice 0x0002 64 b))
      let parts := table? 4 (decodeRun (fun _ => part?) 12 0 (slice 0x0042 48 b))
      let desc := table? 48 (descriptorRun 0 (slice 0x0072 288 b))
      let scale := table? 48 (decodeRun (fun _ => scale?) 2 0 (slice 0x0192 96 b))
      let target := table? 17 (decodeRun (fun _ => target?) 4 0 (slice 0x01F2 68 b))
      let cfg := tuneConfig? (slice 0x0236 12 b)
      let scanMap := table? 96 (scanMapRun 0 (slice 0x0242 192 b))
      let controls := table? 96 (controlRun 0 (slice 0x0302 768 b))
      let options := options? (slice 0x0602 14 b)
      ∃ t, exec .setupLoad s = .next t ∧
        t.router = { s.router with zones := zones.getD s.router.zones, parts := parts.getD s.router.parts } ∧
        t.pitch = { s.pitch with scale := scale.getD s.pitch.scale } ∧
        t.panel = { s.panel with scanMap := scanMap.getD s.panel.scanMap, controls := controls.getD s.panel.controls } ∧
        t.tuner = { s.tuner with target := target.getD s.tuner.target, cfg := cfg.getD s.tuner.cfg } ∧
        t.params.desc = desc.getD s.params.desc ∧
        (∀ (p : PartId) (n : ParamId), t.params.values[p][n] = (t.params.desc[n]).clamp (s.params.values[p][n]).toNat) ∧
        { t.params with desc := s.params.desc, values := s.params.values } = s.params ∧
        { t.store with defaultTables := s.store.defaultTables } = { s.store with
          queue := rest, port := .idle, pageTimer := none, setupResult := .loaded, options := options.getD s.store.options } ∧
        (∀ i : Fin 24, (t.store.defaultTables).getLsbD i.val =
          ((i = 0 && zones.isNone) || (i = 1 && parts.isNone) || (i = 5 && scale.isNone) || (i = 8 && desc.isNone) ||
            (i = 10 && scanMap.isNone) || (i = 11 && controls.isNone) || (i = 13 && options.isNone) || (i = 15 && target.isNone) ||
            (i = 16 && cfg.isNone))) ∧
        t.req = { s.req with phase := .cal } ∧
        { t with router := s.router, pitch := s.pitch, panel := s.panel, tuner := s.tuner, params := s.params, store := s.store,
                 req := s.req } = s) ∧
    (s.store.queue = [{ op := .calLoad, marked := marked }] → s.store.options.loadCal = false → s.store.options.tuneAtStart = .none →
      s.store.options.startRecall = .replicate 4 none → s.link.notices = [] → s.link.responses = [] → s.link.line = none →
      s.link.missed = 0 → ∃ t, exec .calLoad s = .next t ∧ t.req.phase = .ready ∧ t.tuner.cal = s.tuner.cal ∧ t.store.calResult = .none ∧
        t.store.queue = [] ∧ t.tuner.run = s.tuner.run ∧
        t.link = { s.link with
          line := some (.notice (.startDone s.store.setupResult s.store.defaultTables .none)), silence := .running (300 * 16000) } ∧
        t.pitch.glideTimer = some 16000 ∧ t.panel.scanTimer = some (16000 * s.store.options.scanPeriod) ∧
        { t with alloc := s.alloc, pitch := s.pitch, panel := s.panel, store := s.store, tuner := s.tuner, link := s.link,
                 req := s.req } = s)) ∧
  (∀ (s : State) (marked : Bool) (rest : List StoreEntry), s.inReset = false →
    s.store.queue = { op := .calLoad, marked := marked } :: rest → s.store.options.loadCal = false ∨ s.store.port = .reading →
    s.alloc.freeQueue = [] → s.alloc.gateList = [] → s.alloc.releaseList = [] →
    let b := s.store.readRun 0x800 2048
    let good := s.store.options.loadCal = true ∧ blockGood 0x5D b = true
    ∃ u, exec .calLoad s = .next (enterReady u) ∧
      (good → u.tuner = { s.tuner with cal := u.tuner.cal, driftCount := .replicate 16 0, retuneSet := 0 } ∧
        ∀ i : Fin 48, calLoaded? (slice (2 + 36 * i.val) 36 b) = some u.tuner.cal[i]) ∧
      (¬good → u.tuner = s.tuner) ∧
      u.store = { s.store with
        queue := rest, port := .idle, pageTimer := none
        calResult := if s.store.options.loadCal = false then .none else if blockGood 0x5D b = true then .loaded else .fault } ∧
      (∀ v : VoiceId, u.voice v =
        if (u.cal v .oscA).valid = true ∧ (u.cal v .oscB).valid = true then { s.voice v with
          state := .idle, owner := none, pending := .none, release := none, damp := none, benchA := false, benchB := false
          notified := false }
        else { s.voice v with benchA := !(u.cal v .oscA).valid, benchB := !(u.cal v .oscB).valid, notified := true }) ∧
      { u.alloc with voices := s.alloc.voices } = { s.alloc with
        freeQueue := (List.finRange 16).filter (fun v => (u.cal v .oscA).valid && (u.cal v .oscB).valid) } ∧
      (∀ v : VoiceId, u.pitch.filterNominal[v] = !(u.cal v .filter).valid) ∧
      { u.pitch with filterNominal := s.pitch.filterNominal } = s.pitch ∧
      { u with tuner := s.tuner, store := s.store, alloc := s.alloc, pitch := s.pitch } = s) ∧
  (∀ u : State, u.store.queue = [] → VoiceListsOk u.alloc →
    (∀ v : VoiceId, (u.voice v).state = .idle ∨ (u.voice v).state = .benched) →
    let t := enterReady u
    let allValid (v : VoiceId) := (u.cal v .oscA).valid && (u.cal v .oscB).valid && (u.cal v .filter).valid
    let named (v : VoiceId) : Bool := match u.store.options.tuneAtStart with
      | .none => false
      | .voidOnly => !allValid v
      | .all => true
    t.req = { u.req with phase := .ready } ∧
    t.link = { noticedLink (.startDone u.store.setupResult u.store.defaultTables u.store.calResult) u.link with
      silence := .running (300 * 16000) } ∧
    t.store = { u.store with queue := (List.finRange 4).filterMap (fun p : PartId =>
      (u.store.options.startRecall[p]).map (fun slot => { op := .recallRead p slot .now, marked := false })) } ∧
    t.pitch = { u.pitch with glideTimer := some 16000 } ∧
    t.panel = { u.panel with scanTimer := some (16000 * u.store.options.scanPeriod) } ∧
    (∀ v : VoiceId, t.voice v = if named v then
      { u.voice v with state := .tuning, owner := none, pending := .none, q := none, release := none, damp := none } else u.voice v) ∧
    { t.alloc with voices := u.alloc.voices } = { u.alloc with freeQueue := u.alloc.freeQueue.filter (fun v => !named v) } ∧
    { t.tuner with run := u.tuner.run, retuneDue := u.tuner.retuneDue } = { u.tuner with
      driftTimer := if u.tuner.cfg.driftPeriod = 0 then none else some (16000 * (1000 * u.tuner.cfg.driftPeriod)) } ∧
    ((∀ v, named v = false) → t.tuner.run = u.tuner.run ∧ t.tuner.retuneDue = u.tuner.retuneDue) ∧
    ((∃ v, named v = true) → t.tuner.run = some (freshRun .startUp .forced (voiceMask named) 7) ∧ t.tuner.retuneDue = false) ∧
    { t with req := u.req, link := u.link, store := u.store, pitch := u.pitch, panel := u.panel, alloc := u.alloc,
             tuner := u.tuner } = u)

/-- R106, R111, R196: a patch record is read back as the record it was written from, at every name and value. -/
def Obligations.PatchRecordsAreReadBack : Prop :=
  ∀ (slot : Byte) (name : Vector Byte 12) (values : Vector Word12 48),
    judgeRecord (patchBytes name values) = .good ∧
    staged? slot (patchBytes name values) =
      some { slot := slot, name := name, values := values.map (fun v => v.setWidth 16) }

/-! ## The Voice Link (R148 to R161) -/

/-- R151: the table by which a command is merged into a voice's list, and the rule for a list of two. -/
def Obligations.GateCommandsMerge : Prop :=
  let cmds (l : List ListedCmd) := l.map (·.cmd)
  (∀ x : GateCmd, cmds (mergeCmd [] x).1 = [x]) ∧
  (∀ m : Bool,
    cmds (mergeCmd [⟨.on, m⟩] .on).1 = [.on] ∧ cmds (mergeCmd [⟨.on, m⟩] .off).1 = [.on, .off] ∧
    cmds (mergeCmd [⟨.on, m⟩] .damp).1 = [.damp] ∧ cmds (mergeCmd [⟨.off, m⟩] .on).1 = [.off, .on] ∧
    cmds (mergeCmd [⟨.off, m⟩] .off).1 = [.off] ∧ cmds (mergeCmd [⟨.off, m⟩] .damp).1 = [.damp] ∧
    cmds (mergeCmd [⟨.damp, m⟩] .on).1 = [.damp, .on] ∧ cmds (mergeCmd [⟨.damp, m⟩] .off).1 = [.damp] ∧
    cmds (mergeCmd [⟨.damp, m⟩] .damp).1 = [.damp]) ∧
  (∀ (a b : ListedCmd) (x : GateCmd),
    ((mergeCmd [b] x).1.length = 1 → cmds (mergeCmd [a, b] x).1 = a.cmd :: cmds (mergeCmd [b] x).1) ∧
    ((mergeCmd [b] x).1.length = 2 → cmds (mergeCmd [a, b] x).1 = cmds (mergeCmd [b] x).1))

/-- R153, R154, R159, R160: a free line takes, in this order, ALL MUTE, the tune command latch, the head of the command queue (an ON only
once slots 0–3 are clean, the lowest dirty one going first), the next dirty slot in scan order with its pointer, or the next slot of
the refresh with its pointer. -/
def Obligations.SchedulerOrder : Prop :=
  ∀ s : State, s.inReset = false → s.vlink.line = none →
    let sends (f : VlFrame) := exec .voiceLinkOpportunity s = .next { s with vlink := { s.vlink with line := some ⟨f, .live⟩ } }
    let isDirty (v : VoiceId) (k : SlotId) := s.vlink.sent[v][k] ≠ some s.pitch.slots[v][k]
    let voiceAt (x : Nat) (h : x < 512) : VoiceId := ⟨x / 32, by omega⟩
    let slotAt (x : Nat) : SlotId := ⟨x % 32, by omega⟩
    (s.vlink.mute = true → sends .allMute) ∧
    (∀ c, s.vlink.mute = false → s.vlink.latch = some c → sends (.tune c)) ∧
    (∀ v vs c cs, s.vlink.mute = false → s.vlink.latch = none → s.vlink.queue = v :: vs → s.vlink.lists[v] = c :: cs →
      (c.cmd ≠ .on → sends (.gate v c.cmd)) ∧
      (∀ k : SlotId, c.cmd = .on → k.val < 4 → isDirty v k → (∀ j < k, ¬isDirty v j) →
        sends (.slotWrite v k s.pitch.slots[v][k])) ∧
      (c.cmd = .on → (∀ k : SlotId, k.val < 4 → ¬isDirty v k) → sends (.gate v .on))) ∧
    (s.vlink.mute = false → s.vlink.latch = none → s.vlink.queue = [] →
      (∀ (i : Nat), i < 512 →
        let x := (s.vlink.scanPtr.val + 1 + i) % 512
        isDirty (voiceAt x (by omega)) (slotAt x) →
        (∀ j < i, ¬isDirty (voiceAt ((s.vlink.scanPtr.val + 1 + j) % 512) (by omega)) (slotAt ((s.vlink.scanPtr.val + 1 + j) % 512))) →
        exec .voiceLinkOpportunity s = .next { s with vlink := { s.vlink with
          line := some ⟨.slotWrite (voiceAt x (by omega)) (slotAt x) s.pitch.slots[voiceAt x (by omega)][slotAt x], .live⟩
          scanPtr := ⟨x, by omega⟩ } }) ∧
      ((∀ v k, ¬isDirty v k) →
        let x := (s.vlink.refreshPtr.val + 1) % 512
        exec .voiceLinkOpportunity s = .next { s with vlink := { s.vlink with
          line := some ⟨.slotWrite (voiceAt x (by omega)) (slotAt x) s.pitch.slots[voiceAt x (by omega)][slotAt x], .live⟩
          refreshPtr := ⟨x, by omega⟩ } }))

/-- R148, R149, R153 to R156: when the last bit of a frame whose source still stands (log entry 10) has left, a SLOT WRITE sets its sent value, a gate frame
takes its command from the list (an emptied list leaves the queue), a DAMP starts the damp timer of a DAMPING voice, a tune frame
sets the card selection and empties the latch, and ALL MUTE clears the mute request. -/
def Obligations.SentFramesTakeEffect : Prop :=
  ∀ (s : State) (v : VoiceId), s.inReset = false →
    let free := { s.vlink with line := none }
    let popped := { free with
      lists := s.vlink.lists.set v s.vlink.lists[v].tail
      queue := if s.vlink.lists[v].tail = [] then s.vlink.queue.filter (· ≠ v) else s.vlink.queue }
    (∀ (k : SlotId) (x : Word), s.vlink.line = some ⟨.slotWrite v k x, .live⟩ →
      exec .voiceLinkFrameSent s = .next { s with vlink := { free with
        sent := s.vlink.sent.set v (s.vlink.sent[v].set k (some x))
        slotMarks := if x = s.pitch.slots[v][k] then s.vlink.slotMarks.set v (s.vlink.slotMarks[v] &&& ~~~ (1#32 <<< k.val))
          else s.vlink.slotMarks } }) ∧
    (∀ c : GateCmd, c ≠ .damp → s.vlink.line = some ⟨.gate v c, .live⟩ →
      exec .voiceLinkFrameSent s = .next { s with vlink := popped }) ∧
    (s.vlink.line = some ⟨.gate v .damp, .live⟩ → (s.voice v).state = .damping →
      exec .voiceLinkFrameSent s = .next { s with
        vlink := popped
        alloc := { s.alloc with
          voices := s.alloc.voices.set v { s.voice v with damp := some (16000 * s.store.options.dampTime) } } }) ∧
    (s.vlink.line = some ⟨.gate v .damp, .live⟩ → (s.voice v).state ≠ .damping →
      exec .voiceLinkFrameSent s = .next { s with vlink := popped }) ∧
    (∀ src : Source, s.vlink.line = some ⟨.tune (.select v src), .live⟩ →
      exec .voiceLinkFrameSent s = .next { s with vlink := { free with cardSel := some (v, src), latch := none } }) ∧
    (s.vlink.line = some ⟨.tune .release, .live⟩ →
      exec .voiceLinkFrameSent s = .next { s with vlink := { free with cardSel := none, latch := none } }) ∧
    (s.vlink.line = some ⟨.allMute, .live⟩ →
      exec .voiceLinkFrameSent s = .next { s with vlink := { free with mute := false } })

/-! ## Requests (R177 to R191) -/

/-- R119, R179: before READY an event counts in FRAMES GOOD and is discarded, and each request but STATUS is answered STATE and has no
effect. -/
def Obligations.BeforeReady : Prop :=
  (∀ (s : State) (a b c : Byte) (u : Word), actsOnFrames s → s.req.phase ≠ .ready →
    let counted (n : Nat) := Host.Outcome.next (φ := Fault) (ρ := Refusal) (s.withLink (afterGoodFrame n s.link))
    exec (.noteOn a b c) s = counted 6 ∧ exec (.noteOff a b) s = counted 5 ∧ exec (.sustain a b) s = counted 5 ∧
    exec (.bend a u) s = counted 6 ∧ exec (.controlFine a b c) s = counted 6 ∧ exec (.controlCoarse a b c) s = counted 6 ∧
    exec (.allOff a) s = counted 4 ∧ exec (.patchSelect a b) s = counted 5) ∧
  (∀ (s : State) (f : Frame) (rest : List Frame), s.inReset = false → s.req.phase ≠ .ready → s.req.hand = .free →
    s.link.requests = f :: rest → hasRoom s →
    let refused (c : Instr) := exec c s = .next (s.withLink (answeredLink f rest .state [] s.link))
    (f.kind = 0x21 → refused .tableRead) ∧ (f.kind = 0x22 → refused .tableWrite) ∧ (f.kind = 0x23 → refused .tableMerge) ∧
    (f.kind = 0x24 → refused .patchRecall) ∧ (f.kind = 0x25 → refused .patchStore) ∧ (f.kind = 0x26 → refused .setupSave) ∧
    (f.kind = 0x27 → refused .calSave) ∧ (f.kind = 0x28 → refused .tuneStart) ∧ (f.kind = 0x29 → refused .tuneAbort) ∧
    (f.kind = 0x2A → refused .barrierApplied) ∧ (f.kind = 0x2B → refused .barrierDelivered) ∧
    (f.kind = 0x2C → refused .counterSnapshot) ∧
    (f.kind = 0x2D → (asksFull f = false → refused .resetVoices) ∧ (asksFull f = true → refused .resetFull)))

/-- R180, R194: STATUS is answered OK at every phase with its 20 bytes as they stand, the request itself counted; the LOST and OVERRUN flags
are then cleared, and nothing else changes. The seven counts of voices sum to 16. -/
def Obligations.StatusIsAnswered : Prop :=
  ∀ (s : State) (f : Frame) (rest : List Frame), s.inReset = false → s.req.hand = .free → s.link.requests = f :: rest →
    f.kind = 0x20 → f.payload.length ≤ 1 → hasRoom s →
    let linkState : Byte := match s.link.rx with
      | .hunt => 0
      | .candidate => 1
      | .locked => 2
    let phase : Byte := match s.req.phase with
      | .setup => 0
      | .cal => 1
      | .ready => 2
    let run : List Byte := match s.tuner.run with
      | none => [0, 0xFF, 0xFF, 0xFF]
      | some r => [1,
          match r.origin with
          | .host => 0
          | .drift => 1
          | .startUp => 2,
          match r.mode with
          | .forced => 0
          | .background => 1,
          match r.current with
          | none => 0xFF
          | some v => BitVec.ofNat 8 v.val]
    let checked : Byte := match s.tuner.check with
      | none => 0xFF
      | some c => BitVec.ofNat 8 c.voice.val
    let count (st : VoiceState) := ((List.finRange 16).filter (fun v => decide ((s.voice v).state = st))).length
    let states : List VoiceState := [.idle, .held, .sustained, .releasing, .damping, .tuning, .benched]
    ∃ high low flags : Byte,
      exec .status s = .next (s.withLink (answeredLink f rest .ok
        ([linkState, phase] ++ run ++ [checked, BitVec.ofNat 8 s.store.queue.length, BitVec.ofNat 8 (rest.length + 1),
          BitVec.ofNat 8 s.link.notices.length] ++ states.map (fun st => BitVec.ofNat 8 (count st)) ++ [high, low, flags])
        { s.link with lost := false, overrun := false })) ∧
      (∀ v : VoiceId, (high ++ low : Word).getLsbD v.val = decide ((s.voice v).state = .benched)) ∧
      flags.getLsbD 0 = s.link.lost ∧ flags.getLsbD 1 = s.link.overrun ∧ (∀ i, 2 ≤ i → flags.getLsbD i = false) ∧
      (states.map count).sum = 16

/-- R182: TABLE READ answers the entries from the first index on, as many as 36 bytes hold for a count of 0 and exactly the count otherwise;
a first index beyond the table, or a count that does not fit, is RANGE, and an unknown table UNKNOWN. It changes no state. The bytes of an
entry of each of the seventeen tables are those of R195 in the codes of R193; what a field without a value reads as is log entry 14, and the
unison index of a damping voice log entry 22. -/
def Obligations.TableReadAnswersEntries : Prop :=
  (∀ (s : State) (f : Frame) (rest : List Frame) (tag t first count : Byte), executes s f rest → f.kind = 0x21 →
    f.payload = [tag, t, first, count] → hasRoom s →
    let answers (r : ResultCode) (data : List Byte) := exec .tableRead s = .next (s.withLink (answeredLink f rest r data s.link))
    let entries (tb : Table) (n : Nat) := (List.range n).flatMap (fun i => readEntry s tb (first.toNat + i))
    (∀ tb : Table, 1 ≤ 36 / tb.size) ∧
    (tableOf t = none → answers .unknown []) ∧
    ∀ tb, tableOf t = some tb →
      (tb.count ≤ first.toNat → answers .range []) ∧
      (first.toNat < tb.count → count = 0 →
        answers .ok (first :: BitVec.ofNat 8 (min (36 / tb.size) (tb.count - first.toNat)) ::
          entries tb (min (36 / tb.size) (tb.count - first.toNat)))) ∧
      (first.toNat < tb.count → count ≠ 0 → count.toNat * tb.size ≤ 36 → first.toNat + count.toNat ≤ tb.count →
        answers .ok (first :: count :: entries tb count.toNat)) ∧
      (count ≠ 0 → 36 < count.toNat * tb.size ∨ tb.count < first.toNat + count.toNat → answers .range [])) ∧
  (∀ s : State,
    let flag (b : Bool) : Byte := if b then 1 else 0
    let byte (n : Nat) : Byte := BitVec.ofNat 8 n
    let two (x : Nat) : List Byte := [byte (x / 256), byte x]
    let signed (x : Int) : List Byte := [BitVec.ofInt 8 (x / 256), BitVec.ofInt 8 x]
    let slot (x : Option Byte) : List Byte := match x with
      | some b => [0, b]
      | none => [1, 0]
    let orFF (x : Option Nat) : Byte := match x with
      | some n => byte n
      | none => 0xFF
    let mode (m : PartMode) : Byte := match m with
      | .poly => 0
      | .mono => 1
      | .unison => 2
    let priority (m : NotePriority) : Byte := match m with
      | .last => 0
      | .low => 1
      | .high => 2
    let last (r : LastResult) : Byte := match r with
      | .never => 0
      | .pass => 1
      | .noSignal => 2
      | .outOfRange => 3
      | .tolerance => 4
      | .notMonotonic => 5
      | .aborted => 6
    (∀ i : Fin 8, readEntry s .zone i.val =
      let z := s.router.zones[i]
      [flag z.enabled, byte z.channel.val, byte z.keyLow.val, byte z.keyHigh.val, byte z.velLow.val, byte z.velHigh.val,
        byte z.part.val, BitVec.ofInt 8 z.transpose]) ∧
    (∀ p : PartId, readEntry s .part p.val =
      let c := s.router.parts[p]
      [mode c.mode, byte c.unisonCount, priority c.priority, flag c.legato] ++ two c.pool.toNat ++
        [byte c.maxVoices, byte c.level, flag (decide (c.steal = .quietest)), flag c.revive, byte c.scale.val,
          flag (decide (c.select = .nextNote))]) ∧
    (∀ p : PartId, readEntry s .partState p.val =
      [flag s.router.sustain[p], flag s.params.modified[p]] ++ signed s.router.bend[p] ++ slot s.params.window[p] ++
        slot ((s.store.staging[p]).map (·.slot)) ++ two (s.params.editCount[p]).toNat ++ [byte (ownedCount s p), 0]) ∧
    (∀ e : PoolPos, readEntry s .held e.val = match s.entry e with
      | none => List.replicate 10 0
      | some x =>
        [(match x.state with
          | .waiting => 1
          | .voiced => 2), byte x.part.val, byte x.channel.val, byte x.sourceKey.val, byte x.soundingKey.val, byte x.vel.val] ++
          two x.voices.toNat ++ [byte ((placeIn e (s.partList x.part)).getD 0), 0]) ∧
    (∀ v : VoiceId, readEntry s .voice v.val =
      let r := s.voice v
      [(match r.state with
        | .idle => 0
        | .held => 1
        | .sustained => 2
        | .releasing => 3
        | .damping => 4
        | .tuning => 5
        | .benched => 6), orFF (r.owner.map (·.val)), orFF (r.key.map (·.val)), orFF (r.vel.map (·.val))] ++
        (match r.pending with
          | .none => [0, 0xFF, 0xFF]
          | .entry p e => [1, byte p.val, byte e.val]
          | .tuner => [2, 0xFF, 0xFF]) ++
        [byte r.unisonIndex.val] ++
        (match r.release with
          | some n => two (n / 16000)
          | none => [0xFF, 0xFF]) ++
        (match r.q with
          | some q => signed q
          | none => [0x80, 0x00]) ++
        [flag r.clamp + 2 * flag s.pitch.filterNominal[v] + 4 * flag r.benchA + 8 * flag r.benchB,
          orFF (placeIn v s.alloc.gateList)]) ∧
    (∀ i : Fin 48, readEntry s .scale i.val = signed s.pitch.scale[i]) ∧
    (∀ (p : PartId) (n : ParamId), readEntry s .param (48 * p.val + n.val) = two (s.params.values[p][n]).toNat) ∧
    (∀ p : PartId, readEntry s .name p.val = (s.params.names[p]).toList) ∧
    (∀ n : ParamId, readEntry s .descriptor n.val =
      let d := s.params.desc[n]
      two d.min.toNat ++ two d.max.toNat ++ [orFF (d.routed.map (·.val)), 0]) ∧
    (∀ i : Fin 32, readEntry s .pickup i.val = match s.params.pickup[i.val]? with
      | none => List.replicate 6 0xFF
      | some e => [byte e.control.val, byte e.part.val, byte e.param.val, flag (decide (e.direction = .down))] ++ two e.target.toNat) ∧
    (∀ i : Fin 96, readEntry s .scanMap i.val = [orFF ((s.panel.scanMap[i]).map (·.val)), 0]) ∧
    (∀ c : ControlId, readEntry s .control c.val =
      let k := s.panel.controls[c]
      [flag (decide (k.type = .switch)), k.deadBand, byte k.persistence.val, orFF (k.binding.map (·.1.val)), orFF (k.binding.map (·.2.val)),
        flag (decide (k.takeover = .pickup)), flag k.report, 0]) ∧
    (∀ c : ControlId, readEntry s .controlState c.val =
      let k := s.panel.states[c]
      [flag k.reported.isSome, byte k.runCount] ++ match k.reported with
        | some x => two x.toNat
        | none => [0xFF, 0xFF]) ∧
    (readEntry s .options 0 =
      let o := s.store.options
      [byte o.dampTime, byte o.scanPeriod, flag o.panelReport, flag o.loadCal, (match o.tuneAtStart with
        | .none => 0
        | .voidOnly => 1
        | .all => 2), 0] ++ slot o.startRecall[0] ++ slot o.startRecall[1] ++ slot o.startRecall[2] ++ slot o.startRecall[3]) ∧
    (∀ i : Fin 48, readEntry s .calibration i.val =
      let r := s.tuner.cal[i]
      [flag r.valid, last r.last] ++ (List.finRange 17).flatMap (fun k : Fin 17 => two (r.codes[k]).toNat)) ∧
    (∀ i : Fin 17, readEntry s .target i.val =
      let x := s.tuner.target[i]
      [byte x.w, byte (x.t / 65536), byte (x.t / 256), byte x.t]) ∧
    (readEntry s .tuneConfig 0 =
      let c := s.tuner.cfg
      [byte c.settle, byte c.tolShift] ++ two c.s0 ++ [byte c.firstBp, byte c.lastBp, byte c.timeout, byte c.driftPeriod, byte c.driftShift,
        byte c.confirm, flag c.autoRetune, 0]))

/-- R178, R183, R184: a write or merge of a read-only table is READ ONLY, a run of a wrong length or past the end, and a merge past the entry
or the table, is RANGE, and a refused one has no effect. An accepted ZONE write stores its entry; a merge of word 0 of the SETUP
OPTIONS writes (old AND keep) OR value as damp time and scan period where both are in range. A run is taken apart entry by entry; each
entry passes in the ranges of its owner (R2, R10, R77, R79, R94, R95, R118, R125, R128, R129), SCALE and PARAM values being clamped
(R55, R84), and no two entries of a run may name one slot, control or binding; the entries are then written in index order, each as its
owner does, and OK is answered after all of them. A CALIBRATION write that touches a voice in TUNING is STATE (R127). -/
def Obligations.TableWritesAreCheckedWhole : Prop :=
  (∀ (s : State) (f : Frame) (rest : List Frame) (tag t i : Byte), executes s f rest → hasRoom s →
    let answers (c : Instr) (r : ResultCode) (u : State) := exec c s = .next (u.withLink (answeredLink f rest r [] u.link))
    (∀ data tb, f.kind = 0x22 → f.payload = tag :: t :: i :: data → f.fits = true → tableOf t = some tb → data ≠ [] →
      (tb.readOnly = true → answers .tableWrite .readOnly s) ∧
      (tb.readOnly = false → data.length % tb.size ≠ 0 ∨ tb.count < i.toNat + data.length / tb.size →
        answers .tableWrite .range s) ∧
      (∀ (k : Fin 8) (z : Zone), tb = .zone → i.toNat = k.val → zone? data = some z →
        answers .tableWrite .ok { s with router := { s.router with zones := s.router.zones.set k z } }) ∧
      (tb = .zone → i.toNat < 8 → data.length = 8 → zone? data = none → answers .tableWrite .range s) ∧
      (data.length % tb.size = 0 → i.toNat + data.length / tb.size ≤ tb.count →
        let ok (u : State) := answers .tableWrite .ok u
        let bad := answers .tableWrite .range s
        let run {α : Type} (dec : Nat → List Byte → Option α) := decodeRun dec tb.size i.toNat data
        (tb = .zone → (∀ l, run (fun _ => zone?) = some l → ok (writtenRun writeZone i.toNat l s)) ∧
          (run (fun _ => zone?) = none → bad)) ∧
        (tb = .part → (∀ l, run (fun _ => part?) = some l → ok (writtenRun writePart i.toNat l s)) ∧
          (run (fun _ => part?) = none → bad)) ∧
        (tb = .scale → ∀ l, run (fun _ => scale?) = some l → ok (recomputeScales i.toNat l.length (writtenRun storeScale i.toNat l s))) ∧
        (tb = .param → ∀ l, run (fun _ => param?) = some l →
          ok (writtenRun (fun (k : Fin 192) x => writeParam ⟨k.val / 48, by omega⟩ ⟨k.val % 48, by omega⟩ x) i.toNat l s)) ∧
        (tb = .name → (∀ l, run (fun _ => name?) = some l → ok (writtenRun writeName i.toNat l s)) ∧ (run (fun _ => name?) = none → bad)) ∧
        (tb = .descriptor → (∀ l, run descriptor? = some l → (l.filterMap (·.routed)).Nodup → ok (writtenRun writeDescriptor i.toNat l s)) ∧
          (∀ l, run descriptor? = some l → ¬(l.filterMap (·.routed)).Nodup → bad) ∧ (run descriptor? = none → bad)) ∧
        (tb = .scanMap → (∀ l, run (fun _ => scanEntry?) = some l → (l.filterMap id).Nodup → ok (writtenRun writeScanEntry i.toNat l s)) ∧
          (∀ l, run (fun _ => scanEntry?) = some l → ¬(l.filterMap id).Nodup → bad) ∧ (run (fun _ => scanEntry?) = none → bad)) ∧
        (tb = .control → (∀ l, run (fun _ => control?) = some l → (l.filterMap (·.binding)).Nodup → ok (writtenRun writeControl i.toNat l s)) ∧
          (∀ l, run (fun _ => control?) = some l → ¬(l.filterMap (·.binding)).Nodup → bad) ∧ (run (fun _ => control?) = none → bad)) ∧
        (tb = .options → (∀ o, options? data = some o → ok { s with store := { s.store with options := o } }) ∧
          (options? data = none → bad)) ∧
        (tb = .calibration →
          let tuning := ∃ k : Fin 48, i.toNat ≤ k.val ∧ k.val < i.toNat + data.length / 36 ∧ (s.voice ⟨k.val / 3, by omega⟩).state = .tuning
          (∀ l, run (fun _ => cal?) = some l → ¬tuning → ok (writtenRun writeCal i.toNat l s)) ∧
          (∀ l, run (fun _ => cal?) = some l → tuning → answers .tableWrite .state s) ∧ (run (fun _ => cal?) = none → bad)) ∧
        (tb = .target → (∀ l, run (fun _ => target?) = some l →
            ok (writtenRun (fun (k : Fin 17) x u => { u with tuner := { u.tuner with target := u.tuner.target.set k x } }) i.toNat l s)) ∧
          (run (fun _ => target?) = none → bad)) ∧
        (tb = .tuneConfig → (∀ c, tuneConfig? data = some c → ok (writeTuneConfig c s)) ∧ (tuneConfig? data = none → bad)))) ∧
    (∀ w kh kl vh vl tb, f.kind = 0x23 → f.payload = [tag, t, i, w, kh, kl, vh, vl] → tableOf t = some tb →
      (tb.readOnly = true → answers .tableMerge .readOnly s) ∧
      (tb.readOnly = false → tb.count ≤ i.toNat ∨ tb.size ≤ 2 * w.toNat → answers .tableMerge .range s) ∧
      (tb = .options → i = 0 → w = 0 → 1 ≤ s.store.options.dampTime → s.store.options.dampTime ≤ 15 →
        2 ≤ s.store.options.scanPeriod → s.store.options.scanPeriod ≤ 20 →
        let damp := (BitVec.ofNat 8 s.store.options.dampTime &&& kh ||| vh).toNat
        let scan := (BitVec.ofNat 8 s.store.options.scanPeriod &&& kl ||| vl).toNat
        (1 ≤ damp ∧ damp ≤ 15 ∧ 2 ≤ scan ∧ scan ≤ 20 → answers .tableMerge .ok { s with store := { s.store with
          options := { s.store.options with dampTime := damp, scanPeriod := scan } } }) ∧
        (¬(1 ≤ damp ∧ damp ≤ 15 ∧ 2 ≤ scan ∧ scan ≤ 20) → answers .tableMerge .range s)) ∧
      (tb.readOnly = false → i.toNat < tb.count → 2 * w.toNat < tb.size →
        let old := readEntry s tb i.toNat
        let hi := old.getD (2 * w.toNat) 0 &&& kh ||| vh
        let lo := old.getD (2 * w.toNat + 1) 0 &&& kl ||| vl
        let entry := old.take (2 * w.toNat) ++ [hi, lo] ++ old.drop (2 * w.toNat + 2)
        ∃ r u, answers .tableMerge r u ∧
          (writeTable tb i.toNat entry s = .ok u ∧ r = .ok ∨ writeTable tb i.toNat entry s = .error r ∧ u = s)))) ∧
  (∀ {α : Type} (dec : Nat → List Byte → Option α) (size first : Nat) (data : List Byte) (l : List α),
    decodeRun dec size first data = some l ↔ l.length = data.length / size ∧
      ∀ (j : Nat) (x : α), l[j]? = some x → dec (first + j) (slice (j * size) size data) = some x) ∧
  (∀ (b : List Byte) (z : Zone), zone? b = some z ↔ b = zoneBytes z ∧ z.keyLow ≤ z.keyHigh ∧ 1 ≤ z.velLow.val ∧ z.velLow ≤ z.velHigh ∧
    -48 ≤ z.transpose ∧ z.transpose ≤ 48) ∧
  (∀ (b : List Byte) (c : PartCfg), part? b = some c ↔ b = partBytes c ∧ 2 ≤ c.unisonCount ∧ c.unisonCount ≤ 8 ∧ c.pool ≠ 0 ∧
    1 ≤ c.maxVoices ∧ c.maxVoices ≤ 16 ∧ 1 ≤ c.level ∧ c.level ≤ 8) ∧
  (∀ x : Word, scale? [x.extractLsb' 8 8, x.extractLsb' 0 8] = some (max (-128) (min 127 x.toInt)) ∧
    param? [x.extractLsb' 8 8, x.extractLsb' 0 8] = some (min 4095 x.toNat)) ∧
  (∀ (b : List Byte) (n : Vector Byte 12), name? b = some n ↔ b = n.toList ∧ ∀ c ∈ b, 0x20 ≤ c.toNat ∧ c.toNat ≤ 0x7E) ∧
  (∀ (n : Nat) (b : List Byte) (d : Descriptor), descriptor? n b = some d ↔ b.length = 6 ∧ b.take 5 = (descriptorBytes d).take 5 ∧
    d.min ≤ d.max ∧ ∀ k, d.routed = some k → 4 ≤ k.val ∧ 11 ≤ n) ∧
  (∀ (b : List Byte) (c : Option ControlId), scanEntry? b = some c ↔ b.length = 2 ∧ b.take 1 = [optByte c]) ∧
  (∀ (b : List Byte) (k : ControlCfg), b.length = 8 →
    (control? b = some k ↔ (b.take 7 = (controlBytes k).take 7 ∨
      k.binding = none ∧ b.take 4 = (controlBytes k).take 4 ∧ slice 5 2 b = slice 5 2 (controlBytes k)))) ∧
  (∀ (b : List Byte) (o : SetupOptions), options? b = some o ↔ b.length = 14 ∧ b.take 5 = (optionsBytes o).take 5 ∧
    b.drop 6 = (optionsBytes o).drop 6 ∧ 1 ≤ o.dampTime ∧ o.dampTime ≤ 15 ∧ 2 ≤ o.scanPeriod ∧ o.scanPeriod ≤ 20) ∧
  (∀ (b : List Byte) (r : CalRecord), b.length = 36 → (cal? b = some r ↔ b = calBytes r ∧
    (r.valid = true → ∀ (i : Fin 16), r.codes[i.val]'(by omega) ≤ r.codes[i.val + 1]'(by omega)))) ∧
  (∀ (b : List Byte) (x : Target), target? b = some x ↔ b = targetBytes x ∧ 1 ≤ x.w ∧ x.w ≤ 255 ∧ 1 ≤ x.t ∧ x.t ≤ 16777214) ∧
  (∀ (b : List Byte) (c : TuneConfig), tuneConfig? b = some c ↔ b.length = 12 ∧ b.take 11 = (tuneConfigBytes c).take 11 ∧
    1 ≤ c.settle ∧ c.settle ≤ 20 ∧ 8 ≤ c.tolShift ∧ c.tolShift ≤ 12 ∧ c.s0 ∈ [64, 128, 256, 512, 1024, 2048, 4096] ∧
    c.firstBp < c.lastBp ∧ c.lastBp ≤ 16 ∧ 10 ≤ c.timeout ∧ c.timeout ≤ 200 ∧ c.driftPeriod ≤ 60 ∧
    6 ≤ c.driftShift ∧ c.driftShift ≤ 10 ∧ 1 ≤ c.confirm ∧ c.confirm ≤ 4)

/-- R109, R114, R117, R185: with room in the store queue each of the four requests places its operation at the tail, with the copies of
this moment, and is answered ACCEPTED; with four operations queued it is answered BUSY and has no effect. A PATCH RECALL for a part with a
waiting recall is merged into it, in its place and with its mark, also in a full queue. A part above 3 or an unknown timing is RANGE. -/
def Obligations.StoreRequestsArePlacedOrBusy : Prop :=
  (∀ (s : State) (f : Frame) (rest : List Frame) (tag slot : Byte) (p : PartId), executes s f rest → hasRoom s →
    recallWaits s p = false →
    let busy (c : Instr) := exec c s = .next (s.withLink (answeredLink f rest .busy [] s.link))
    let placed (c : Instr) (op : StoreOp) := exec c s = .next { s with
      link := answeredLink f rest .accepted [] s.link
      store := { s.store with queue := s.store.queue ++ [{ op := op, marked := false }] } }
    let room := s.store.queue.length < 4 ∧ ∀ q : PartId, s.store.selects[q] = none
    let full := 4 ≤ s.store.queue.length
    let part := BitVec.ofNat 8 p.val
    (f.kind = 0x24 → f.payload = [tag, part, slot, 0] →
      (room → placed .patchRecall (.recallRead p slot .now)) ∧ (full → busy .patchRecall)) ∧
    (f.kind = 0x24 → f.payload = [tag, part, slot, 1] →
      (room → placed .patchRecall (.recallRead p slot .nextNote)) ∧ (full → busy .patchRecall)) ∧
    (f.kind = 0x25 → f.payload = [tag, part, slot] →
      (room → placed .patchStore (.patchWrite p slot s.params.values[p] s.params.names[p] s.params.editCount[p])) ∧
      (full → busy .patchStore)) ∧
    (f.kind = 0x26 → f.payload.length ≤ 1 → (room → placed .setupSave (.setupSave (setupTables s))) ∧ (full → busy .setupSave)) ∧
    (f.kind = 0x27 → f.payload.length ≤ 1 → (room → placed .calSave (.calSave s.tuner.cal)) ∧ (full → busy .calSave))) ∧
  (∀ (s : State) (f : Frame) (rest : List Frame) (tag pb slot tb : Byte), executes s f rest → hasRoom s →
    let full := 4 ≤ s.store.queue.length
    let idle := ∀ q : PartId, s.store.selects[q] = none
    let merges (p : PartId) (timing : Timing) := exec .patchRecall s = .next { s with
      link := answeredLink f rest .accepted [] s.link
      store := { s.store with queue := s.store.queue.take 1 ++ (s.store.queue.drop 1).map (fun e =>
        if e.recalls p then { e with op := .recallRead p slot timing } else e) } }
    let range (c : Instr) := exec c s = .next (s.withLink (answeredLink f rest .range [] s.link))
    (∀ p : PartId, f.kind = 0x24 → f.payload = [tag, pb, slot, tb] → pb.toNat = p.val → recallWaits s p = true → full ∨ idle →
      (tb = 0 → merges p .now) ∧ (tb = 1 → merges p .nextNote)) ∧
    (f.kind = 0x24 → f.payload = [tag, pb, slot, tb] → 3 < pb.toNat ∨ 1 < tb.toNat → range .patchRecall) ∧
    (f.kind = 0x25 → f.payload = [tag, pb, slot] → 3 < pb.toNat → range .patchStore))

/-- R139, R142, R143, R186: TUNE START with an empty mask or an unknown mode is RANGE, and BUSY while a run is active; otherwise it is
ACCEPTED and the run record is as R139 says, a drift check in progress being abandoned first (its voice is returned before the run record
is made: log entry 12). A BACKGROUND run claims nothing; R48, R140: a FORCED run claims each voice of its scope by its state, in voice
order by the model's choice (log entry 12). A start leaves no retune run due (log entry 9). TUNE ABORT is OK; with neither a run nor a
check it has no effect, and it abandons a check. It ends a run: the source under measurement ends with ABORTED and its voice is reported,
the voices of the run in TUNING return in voice order, the pending claims are cancelled, and TUNE DONE, aborted, is offered. That an abort
starts no retune run is the model's choice (log entry 19). -/
def Obligations.TuneRequests : Prop :=
  (∀ (s : State) (f : Frame) (rest : List Frame) (tag vh vl src mode : Byte), executes s f rest → hasRoom s →
    let answers (c : Instr) (r : ResultCode) (u : State) := exec c s = .next (u.withLink (answeredLink f rest r [] u.link))
    let voices : Word := vh ++ vl
    (f.kind = 0x28 → f.payload = [tag, vh, vl, src, mode] →
      (voices = 0 ∨ src = 0 ∨ 1 < mode.toNat → answers .tuneStart .range s) ∧
      (voices ≠ 0 → src ≠ 0 → src.toNat ≤ 7 → mode.toNat ≤ 1 → s.tuner.run ≠ none → answers .tuneStart .busy s) ∧
      (voices ≠ 0 → src ≠ 0 → src.toNat ≤ 7 → mode.toNat ≤ 1 → s.tuner.run = none →
        let a := abandonCheck s
        let begun (m : RunMode) := { a with tuner := { a.tuner with
          retuneDue := false, run := some (freshRun .host m voices (src.setWidth 3)) } }
        (mode = 1 → answers .tuneStart .accepted (begun .background)) ∧
        (mode = 0 → answers .tuneStart .accepted
          (((List.finRange 16).filter (fun v => voices.getLsbD v.val)).foldl (fun u v => forceClaim v u) (begun .forced))))) ∧
    (f.kind = 0x29 → f.payload.length ≤ 1 →
      (s.tuner.run = none → answers .tuneAbort .ok (abandonCheck s)) ∧
      (∀ r, s.tuner.run = some r → s.tuner.check = none → s.tuner.job = none →
        (∀ v : VoiceId, (s.voice v).state ≠ .tuning ∧ (s.voice v).pending ≠ .tuner) →
        answers .tuneAbort .ok { s with
          tuner := { s.tuner with run := none, meas := none, counter := .idle, noSignal := none, settle := none }
          link := noticedLink (.tuneDone r.origin r.passed r.failed true) s.link }) ∧
      (∀ r, s.tuner.run = some r → s.tuner.check = none →
        let ended := measurementOver s
        let quiet := match s.tuner.job with
          | none => { ended with tuner := { ended.tuner with run := none } }
          | some j =>
            let x := { s.cal j.voice j.source with last := .aborted }
            let lost := tuneReleased { ended with tuner := { ended.tuner with
              run := none, job := none, cal := s.tuner.cal.set (State.calIndex j.voice j.source) x } }
            { lost with link := noticedLink (.voiceTuned j.voice (lost.cal j.voice .oscA).last (lost.cal j.voice .oscB).last
                (lost.cal j.voice .filter).last) s.link }
        let back := ((List.finRange 16).filter (fun v => r.notDone.getLsbD v.val && decide ((s.voice v).state = .tuning))).foldl
          (fun u v => settleVoice v u) quiet
        ∃ t, answers .tuneAbort .ok t ∧
          (∀ v : VoiceId, t.voice v = if (back.voice v).state = .damping ∧ (back.voice v).pending = .tuner then
            { back.voice v with pending := .none, owner := none } else back.voice v) ∧
          { t.alloc with voices := back.alloc.voices } = back.alloc ∧
          t.link = noticedLink (.tuneDone r.origin r.passed r.failed true) back.link ∧
          { t with alloc := back.alloc, link := back.link } = back))) ∧
  (∀ s : State, (s.tuner.check = none → abandonCheck s = s) ∧
    ∀ c, s.tuner.check = some c → abandonCheck s =
      let ended := tuneReleased (measurementOver s)
      settleVoice c.voice { ended with tuner := { ended.tuner with check := none } }) ∧
  (∀ (s : State) (v : VoiceId), VoiceListsOk s.alloc →
    let record (r : VoiceRec) := { s with alloc := { s.alloc with voices := s.alloc.voices.set v r } }
    let tuning := record { s.voice v with state := .tuning, owner := none, pending := .none, q := none, release := none, damp := none }
    ((s.voice v).state = .idle → forceClaim v s = { tuning with alloc := { tuning.alloc with
      freeQueue := s.alloc.freeQueue.filter (· ≠ v) } }) ∧
    ((s.voice v).state = .benched → forceClaim v s = tuning) ∧ ((s.voice v).state = .tuning → forceClaim v s = s) ∧
    ((s.voice v).state.sounding = true → forceClaim v s = takeVoice v .tuner (fun c => c.revive) s) ∧
    ((s.voice v).state = .damping →
      let claimed := record { s.voice v with pending := .tuner, owner := none }
      (∀ p e x, (s.voice v).pending = .entry p e → s.entry e = some x → (s.part p).mode = .poly → forceClaim v s =
        claimed.withRouter (s.router.withEntry e (some { x with state := .waiting, voices := 0 }))) ∧
      ((∀ p e, (s.voice v).pending = .entry p e → (s.part p).mode ≠ .poly) → forceClaim v s = claimed)))

/-- R161, R187, R188: a barrier with nothing to wait for is answered OK at once; otherwise it marks every queued operation and pending
select (and, at its delivery stage, every dirty slot and the last command of each list) and waits in hand; DELIVERY_STAGE and
BARRIER_RELEASE do nothing while a mark of their stage remains. A BARRIER DELIVERED that finds no store operation goes to its delivery
stage at once. -/
def Obligations.Barriers : Prop :=
  ∀ (s : State) (f : Frame) (rest : List Frame), s.inReset = false → s.req.phase = .ready → s.link.requests = f :: rest → hasRoom s →
    f.payload.length ≤ 1 →
    let ok (c : Instr) (u : State) := exec c s = .next { u with
      link := answeredLink f rest .ok [] s.link, req := { s.req with hand := .free } }
    let waits (c : Instr) (h : Hand) (u : State) := exec c s = .next { u with req := { s.req with hand := h } }
    let marked := { s with store := { s.store with
      queue := s.store.queue.map (fun e => { e with marked := true })
      selects := s.store.selects.map (fun x => x.map (fun y => { y with marked := true })) } }
    let quiet := s.store.queue = [] ∧ ∀ q : PartId, s.store.selects[q] = none
    let clean := (∀ (v : VoiceId) (k : SlotId), s.vlink.sent[v][k] = some s.pitch.slots[v][k]) ∧ ∀ v : VoiceId, s.vlink.lists[v] = []
    let unmarked := { s with vlink := { s.vlink with slotMarks := .replicate 16 0 } }
    let delivers (c : Instr) := ∃ t, exec c s = .next t ∧
      t.req.hand = .barrier true true ∧
      (∀ (v : VoiceId) (k : SlotId), (t.vlink.slotMarks[v]).getLsbD k.val = decide (s.vlink.sent[v][k] ≠ some s.pitch.slots[v][k])) ∧
      (∀ v : VoiceId, (t.vlink.lists[v]).map (·.cmd) = (s.vlink.lists[v]).map (·.cmd)) ∧
      (∀ (v : VoiceId) (l : List ListedCmd) (c : ListedCmd), s.vlink.lists[v] = l ++ [c] →
        t.vlink.lists[v] = l ++ [{ c with marked := true }]) ∧
      { t.vlink with slotMarks := s.vlink.slotMarks, lists := s.vlink.lists } = s.vlink ∧
      { t with vlink := s.vlink, req := { s.req with hand := t.req.hand } } = { s with req := { s.req with hand := t.req.hand } }
    (s.req.hand = .free → f.kind = 0x2A → quiet → ok .barrierApplied s) ∧
    (s.req.hand = .free → f.kind = 0x2A → ¬quiet → waits .barrierApplied (.barrier false false) marked) ∧
    (s.req.hand = .free → f.kind = 0x2B → ¬quiet → waits .barrierDelivered (.barrier true false) marked) ∧
    (s.req.hand = .free → f.kind = 0x2B → quiet → clean → ok .barrierDelivered unmarked) ∧
    (s.req.hand = .free → f.kind = 0x2B → quiet → ¬clean → delivers .barrierDelivered) ∧
    (s.req.hand = .barrier true false → storeMarksRemain s.store = true → exec .deliveryStage s = .next s) ∧
    (s.req.hand = .barrier true false → storeMarksRemain s.store = false → clean → ok .deliveryStage unmarked) ∧
    (s.req.hand = .barrier true false → storeMarksRemain s.store = false → ¬clean → delivers .deliveryStage) ∧
    (s.req.hand = .barrier false false → storeMarksRemain s.store = true → exec .barrierRelease s = .next s) ∧
    (s.req.hand = .barrier false false → storeMarksRemain s.store = false → ok .barrierRelease s) ∧
    (s.req.hand = .barrier true true → marksRemain s.vlink = true → exec .barrierRelease s = .next s) ∧
    (s.req.hand = .barrier true true → marksRemain s.vlink = false → ok .barrierRelease s)

/-- R189: COUNTER SNAPSHOT answers the 16 counters captured together, and with clear yes sets all 16 to 0 in the same step; any other code
of the field gives RANGE. -/
def Obligations.CounterSnapshot : Prop :=
  ∀ (s : State) (f : Frame) (rest : List Frame) (tag clear : Byte), executes s f rest → f.kind = 0x2C → f.payload = [tag, clear] →
    hasRoom s →
    let data := s.link.counters.toList.flatMap (fun w => [w.extractLsb' 8 8, w.extractLsb' 0 8])
    (clear = 0 → exec .counterSnapshot s = .next (s.withLink (answeredLink f rest .ok data s.link))) ∧
    (clear = 1 → exec .counterSnapshot s = .next (s.withLink (answeredLink f rest .ok data
      { s.link with counters := .replicate 16 0 }))) ∧
    (1 < clear.toNat → exec .counterSnapshot s = .next (s.withLink (answeredLink f rest .range [] s.link)))

/-- R20, R50, R143, R147, R162, R190, R191: RESET VOICES aborts a run and a check, with TUNE DONE and, for a voice under measurement, VOICE TUNED and
ABORTED, makes each voice IDLE or BENCHED by its records, its key and velocity kept, rebuilds the three lists, empties the Note Router but
for its tables, sets the mute request and answers OK; it leaves no retune run due (log entry 9). Counters, tables, other records,
parameters and the store are kept. RESET FULL's OK joins the FIFO and no further request is taken in hand; a mode that is neither is
RANGE, which the row RESET_VOICES answers by the model's choice (log entry 7). -/
def Obligations.ResetRequests : Prop :=
  ∀ (s : State) (f : Frame) (rest : List Frame) (tag mode : Byte), executes s f rest → f.kind = 0x2D → f.payload = [tag, mode] →
    hasRoom s →
    (mode = 0 →
      let idle := fun v : VoiceId => decide ((s.voice v).state ≠ .benched) && s.oscValid v
      let cal := match s.tuner.job with
        | none => s.tuner.cal
        | some j => s.tuner.cal.set (State.calIndex j.voice j.source) { s.cal j.voice j.source with last := .aborted }
      let last (v : VoiceId) (src : Source) := (cal[State.calIndex v src]).last
      let told := match s.tuner.job with
        | none => s.link
        | some j => noticedLink (.voiceTuned j.voice (last j.voice .oscA) (last j.voice .oscB) (last j.voice .filter)) s.link
      let link := match s.tuner.run with
        | none => told
        | some r => noticedLink (.tuneDone r.origin r.passed r.failed true) told
      exec .resetVoices s = .next { s with
        link := answeredLink f rest .ok [] link
        alloc := {
          voices := Vector.ofFn (fun v : VoiceId => { s.voice v with
            state := if idle v then .idle else .benched
            owner := none, release := none, pending := .none, unisonIndex := 0, q := none, clamp := false, damp := none
            benchA := !idle v && !(s.cal v .oscA).valid, benchB := !idle v && !(s.cal v .oscB).valid, notified := !idle v })
          freeQueue := (List.finRange 16).filter idle, gateList := [], releaseList := [] }
        pitch := { s.pitch with unisonSize := .replicate 16 1 }
        router := { s.router with sustain := .replicate 4 false, bend := .replicate 4 0, latches := .replicate 16 none,
                                  pool := .replicate 32 none, lists := .replicate 4 [] }
        tuner := { s.tuner with cal := cal, job := none, run := none, check := none, meas := none, counter := .idle, noSignal := none,
                                settle := none, selection := none, retuneDue := false }
        vlink := s.vlink.requestMute }) ∧
    (mode = 1 → exec .resetFull s = .next { s with
      link := startOutbound { s.link with
        responses := s.link.responses ++ [{ kind := 0x2D, tag := tag, result := .ok, data := [], fullReset := true }], requests := rest }
      req := { s.req with hand := .fullReset } }) ∧
    (1 < mode.toNat → exec .resetVoices s = .next (s.withLink (answeredLink f rest .range [] s.link)))

/-! ## The Tuner (R130 to R146) -/

/-- R130, R131, R135, R140, R157: with no voice being measured the Tuner takes the lowest-numbered TUNING voice of a FORCED run and begins
its OSC A at the first breakpoint with the seed of a VALID record. R141: a BACKGROUND run takes the voice an offer has claimed, else the
first of the free queue, else the lowest-numbered BENCHED one, which becomes TUNING; with none the Tuner waits. It begins the first source
in scope; R132: a VOID record gives the seed 32768 and the step 16384. The settle timer starts when the card holds selection and code.
That the setting counts as held only while the tune command latch is empty, so that nothing happens while a tune command waits there, is
the model's choice (DEDUCED, log entry 10). The settle timer's expiry arms the counter with the no-signal timer; the first edge starts the
count at 0 and an edge below the last restarts the timer. The ticks at an edge are its operand (log entry 11). Where the setting is not
held MEASUREMENT_SETTLE_START is out of turn and does nothing (log entry 1), and the expiry is taken whatever ticks are left (log entry
2). -/
def Obligations.MeasurementStages : Prop :=
  ∀ (s : State) (m : Measurement) (n : Nat), s.inReset = false →
    (∀ (r : Run) (v : VoiceId), s.tuner.run = some r → r.mode = .forced → s.tuner.job = none → r.sources.getLsbD 0 = true →
      r.notDone.getLsbD v.val = true → (s.voice v).state = .tuning →
      (∀ u < v, r.notDone.getLsbD u.val = true → (s.voice u).state ≠ .tuning) → (s.cal v .oscA).valid = true →
      s.tuner.cfg.firstBp ≤ 16 →
      let seed := codeAt (s.cal v .oscA).codes s.tuner.cfg.firstBp
      ∃ t, exec .tunerTakeVoice s = .next t ∧ t.tuner.run = some { r with current := some v } ∧
        t.tuner.selection = some (v, .oscA) ∧ t.vlink = s.vlink.place (.select v .oscA) ∧
        t.pitch = { s.pitch with slots := s.pitch.slots.set v (s.pitch.slots[v].set 0 (BitVec.ofInt 16 seed)) } ∧
        (∃ j, t.tuner.job = some j ∧ j.voice = v ∧ j.source = .oscA ∧ j.bp = s.tuner.cfg.firstBp ∧ j.code = seed ∧
          j.step = s.tuner.cfg.s0 ∧ j.found = [] ∧ j.limit = false ∧ j.verifying = false ∧ j.old = s.cal v .oscA) ∧
        { t.tuner with run := s.tuner.run, selection := s.tuner.selection, job := s.tuner.job, meas := s.tuner.meas } = s.tuner ∧
        { t with tuner := s.tuner, pitch := s.pitch, vlink := s.vlink } = s) ∧
    (∀ r : Run, s.tuner.run = some r → s.tuner.job = none →
      let todo (u : VoiceId) := r.notDone.getLsbD u.val
      let lowest (st : VoiceState) (v : VoiceId) := todo v = true ∧ (s.voice v).state = st ∧ ∀ u < v, todo u = true → (s.voice u).state ≠ st
      let no (st : VoiceState) := ∀ u : VoiceId, todo u = true → (s.voice u).state ≠ st
      let free := s.alloc.freeQueue.find? todo
      let next (v : VoiceId) := (r.mode = .forced ∧ lowest .tuning v) ∨ (r.mode = .background ∧
        (r.current = some v ∨ (r.current = none ∧ (free = some v ∨ (free = none ∧ lowest .benched v)))))
      let inRun (x : Source) : Bool := match x with
        | .oscA => r.sources.getLsbD 0
        | .oscB => r.sources.getLsbD 1
        | .filter => r.sources.getLsbD 2
      ((r.mode = .forced ∧ no .tuning) ∨ (r.mode = .background ∧ r.current = none ∧ free = none ∧ no .benched) →
        exec .tunerTakeVoice s = .next s) ∧
      (∀ (v : VoiceId) (src : Source) (b : Fin 17), next v → [Source.oscA, .oscB, .filter].find? inRun = some src →
        b.val = s.tuner.cfg.firstBp →
        let old := s.cal v src
        let code : Int := if old.valid = true then codeAt old.codes b.val else 32768
        let goal := s.tuner.target[b]
        ∃ t, exec .tunerTakeVoice s = .next t ∧
          t.alloc = (if (s.voice v).state = .tuning then s.alloc else {
            voices := s.alloc.voices.set v { s.voice v with
              state := .tuning, owner := none, pending := .none, q := none, release := none, damp := none }
            freeQueue := s.alloc.freeQueue.filter (· ≠ v), gateList := s.alloc.gateList.filter (· ≠ v)
            releaseList := s.alloc.releaseList.filter (· ≠ v) }) ∧
          t.vlink = s.vlink.place (.select v src) ∧
          t.pitch = { s.pitch with slots := s.pitch.slots.set v (s.pitch.slots[v].set src.slot (BitVec.ofInt 16 code)) } ∧
          t.tuner = { s.tuner with
            run := some { r with current := some v }, selection := some (v, src)
            job := some { voice := v, source := src, s0 := s.tuner.cfg.s0, tolShift := s.tuner.cfg.tolShift, first := b.val
                          last := s.tuner.cfg.lastBp, old := old, found := [], bp := b.val, w := goal.w, t := goal.t, code := code
                          step := if old.valid = true then s.tuner.cfg.s0 else 16384, limit := false, verifying := false }
            meas := some { voice := v, source := src, code := BitVec.ofInt 16 code, w := goal.w,
                           settleTicks := 16000 * s.tuner.cfg.settle / 2, timeoutTicks := 16000 * s.tuner.cfg.timeout } } ∧
          { t with tuner := s.tuner, alloc := s.alloc, pitch := s.pitch, vlink := s.vlink } = s)) ∧
    (s.tuner.meas = some m → s.tuner.counter = .idle → s.tuner.settle = none →
      let held := s.vlink.latch = none ∧ s.vlink.cardSel = some (m.voice, m.source) ∧
        s.vlink.sent[m.voice][m.source.slot] = some m.code
      (held → exec .measurementSettleStart s = .next { s with tuner := { s.tuner with settle := some m.settleTicks } }) ∧
      (¬held → exec .measurementSettleStart s = .next s)) ∧
    (s.tuner.meas = some m → s.tuner.settle = some n → exec .tuneSettleExpiry s = .next { s with tuner := { s.tuner with
      settle := none, counter := .armed, noSignal := some m.timeoutTicks } }) ∧
    (s.tuner.meas = some m → s.tuner.counter = .armed → exec (.tuneEdge n) s = .next { s with tuner := { s.tuner with
      counter := .counting, count := 0, edges := 0, noSignal := some m.timeoutTicks } }) ∧
    (s.tuner.meas = some m → s.tuner.counter = .counting → s.tuner.count + n < 16777215 → s.tuner.edges + 1 < m.w →
      exec (.tuneEdge n) s = .next { s with tuner := { s.tuner with
        count := s.tuner.count + n, edges := s.tuner.edges + 1, noSignal := some m.timeoutTicks } })

/-- R130, R133: in the adjusting stage, with a step above 1, a saturated count and a count above T raise the code by the step, a count below T lowers
it, either held to 0..65535 with the limit flag set; the step is halved and the new code is driven on the source's slot. At step 1 the
code is adjusted in the same way and then verified. R133, R134: a count that equals T passes the breakpoint without a verify, and a verify
within the tolerance passes it; any other verify fails the source. The count compared at an edge is the count so far and the operand (log
entry 11). R132, R135: the next breakpoint is searched from its seed. R136: after the last one, strictly rising codes replace the record,
extended to both ends, and SOURCES TUNED is counted. R137: a source that fails keeps its codes and SOURCES FAILED is counted. R135, R138: the
next source in scope follows; after the last, TUNE RELEASE is placed, VOICE TUNED offered, the voice taken out of not done and
returned. R142: with not done empty TUNE DONE is offered and the run ends; that a retune run is then due is remembered in a field of the
model (log entry 9). COUNT_SATURATED and NO_SIGNAL_TIMEOUT are taken whatever the count and the timer hold (log entry 2). -/
def Obligations.AdjustingMeasurements : Prop :=
  (∀ (s : State) (m : Measurement) (j : SourceJob) (n : Nat), s.inReset = false → s.tuner.meas = some m → s.tuner.counter = .counting →
    s.tuner.job = some j →
    let next (raw : Int) :=
      let code := max 0 (min 65535 raw)
      { s with
        pitch := { s.pitch with slots := s.pitch.slots.set j.voice (s.pitch.slots[j.voice].set j.source.slot (BitVec.ofInt 16 code)) }
        tuner := { s.tuner with
          counter := .idle, noSignal := none, settle := none
          job := some { j with
            code := code, step := if j.step ≤ 1 then j.step else j.step / 2, limit := j.limit || decide (raw < 0 ∨ 65535 < raw)
            verifying := decide (j.step ≤ 1) }
          meas := some { voice := j.voice, source := j.source, code := BitVec.ofInt 16 code, w := j.w,
                         settleTicks := 16000 * s.tuner.cfg.settle / 2, timeoutTicks := 16000 * s.tuner.cfg.timeout } } }
    let ended := measurementOver s
    let failed := failSource j (if j.limit = true ∨ j.code = 0 ∨ j.code = 65535 then .outOfRange else .tolerance) ended
    let last := m.w ≤ s.tuner.edges + 1 ∧ s.tuner.count + n < 16777215
    (j.verifying = false →
      exec .countSaturated s = .next (next (j.code + j.step)) ∧
      (last → (j.t < s.tuner.count + n → exec (.tuneEdge n) s = .next (next (j.code + j.step))) ∧
        (s.tuner.count + n < j.t → exec (.tuneEdge n) s = .next (next (j.code - j.step))) ∧
        (s.tuner.count + n = j.t → exec (.tuneEdge n) s = .next (passBreakpoint j ended)))) ∧
    (j.verifying = true →
      let distance := max (s.tuner.count + n) j.t - min (s.tuner.count + n) j.t
      exec .countSaturated s = .next failed ∧
      (last → (distance ≤ j.t / 2 ^ j.tolShift → exec (.tuneEdge n) s = .next (passBreakpoint j ended)) ∧
        (j.t / 2 ^ j.tolShift < distance → exec (.tuneEdge n) s = .next failed))) ∧
    exec .noSignalTimeout s = .next (failSource j .noSignal ended)) ∧
  (∀ (s : State) (j : SourceJob),
    let k := { j with found := j.found ++ [j.code] }
    (j.bp < j.last → ∃ x : Target, (∀ i : Fin 17, i.val = j.bp + 1 → x = s.tuner.target[i]) ∧
      let c := k.seed (j.bp + 1)
      passBreakpoint j s = { s with
        pitch := { s.pitch with slots := s.pitch.slots.set j.voice (s.pitch.slots[j.voice].set j.source.slot (BitVec.ofInt 16 c)) }
        tuner := { s.tuner with
          job := some { k with
            bp := j.bp + 1, w := x.w, t := x.t, code := c, limit := false, verifying := false
            step := if k.wide (j.bp + 1) then 16384 else j.s0 }
          meas := some { voice := j.voice, source := j.source, code := BitVec.ofInt 16 c, w := x.w,
                         settleTicks := 16000 * s.tuner.cfg.settle / 2, timeoutTicks := 16000 * s.tuner.cfg.timeout } } }) ∧
    (j.last ≤ j.bp → ¬k.found.Pairwise (· < ·) → passBreakpoint j s = failSource k .notMonotonic s) ∧
    (j.last ≤ j.bp → k.found.Pairwise (· < ·) → (s.voice j.voice).state = .tuning → passBreakpoint j s = nextSource j.voice j.source
      (let u := sourceEnded (s.tuner.cal.set (State.calIndex j.voice j.source) k.record) .sourcesTuned
        (fun r => { r with passed := r.passed + 1 }) s
       match j.source with
       | .oscA => { u with tuner := { u.tuner with
           driftCount := s.tuner.driftCount.set j.voice 0, retuneSet := s.tuner.retuneSet &&& ~~~ (1#16 <<< j.voice.val) } }
       | .oscB => u
       | .filter => { u with pitch := { s.pitch with filterNominal := s.pitch.filterNominal.set j.voice false } })) ∧
    (∀ x : LastResult, x ≠ .noSignal → failSource j x s = nextSource j.voice j.source
      (sourceEnded (s.tuner.cal.set (State.calIndex j.voice j.source) { s.cal j.voice j.source with last := x }) .sourcesFailed
        (fun r => { r with failed := r.failed + 1 }) s))) ∧
  (∀ (j : SourceJob) (i : Nat),
    let old (n : Nat) := codeAt j.old.codes n
    let new (n : Nat) : Int := (j.found[n - j.first]?).getD 0
    let clamp (x : Int) := max 0 (min 65535 x)
    (j.wide i = true ↔ j.old.valid = false ∧ (i = j.first ∨ i = j.first + 1)) ∧
    (j.wide i = true → j.seed i = 32768) ∧ (j.old.valid = true → i = j.first → j.seed i = old i) ∧
    (j.old.valid = true → i = j.first + 1 → j.seed i = clamp (new j.first + (old i - old j.first))) ∧
    (j.first + 1 < i → j.seed i = clamp (new (i - 1) + (new (i - 1) - new (i - 2))))) ∧
  (∀ j : SourceJob, j.first < j.last → j.last ≤ 16 → j.found.length = j.last - j.first + 1 → (∀ c ∈ j.found, 0 ≤ c ∧ c ≤ 65535) →
    j.found.Pairwise (· < ·) →
    let d (n : Nat) : Int := codeAt j.record.codes n
    let new (n : Nat) : Int := (j.found[n - j.first]?).getD 0
    j.record.valid = true ∧ j.record.last = .pass ∧ (∀ i, j.first ≤ i → i ≤ j.last → d i = new i) ∧
    (∀ i < j.first, d i = max 0 (d (i + 1) - (new (j.first + 1) - new j.first))) ∧
    (∀ i, j.last ≤ i → i < 16 → d (i + 1) = min 65535 (d i + (new j.last - new (j.last - 1))))) ∧
  (∀ (s : State) (v : VoiceId) (src next : Source) (r : Run), s.tuner.run = some r →
    let inRun (x : Source) : Bool := match x with
      | .oscA => r.sources.getLsbD 0
      | .oscB => r.sources.getLsbD 1
      | .filter => r.sources.getLsbD 2
    let rest : List Source := match src with
      | .oscA => [.oscB, .filter]
      | .oscB => [.filter]
      | .filter => []
    (rest.find? inRun = some next → nextSource v src s = beginSource v next s) ∧
    (rest.find? inRun = none → s.req.phase = .ready →
      let lost := tuneReleased { s with tuner := { s.tuner with job := none } }
      let done := { r with notDone := r.notDone &&& ~~~ (1#16 <<< v.val), current := none }
      let told := { lost with
        link := noticedLink (.voiceTuned v (s.cal v .oscA).last (s.cal v .oscB).last (s.cal v .filter).last) s.link
        tuner := { lost.tuner with run := some done } }
      nextSource v src s = endRunIfDone (settleVoice v told))) ∧
  (∀ (s : State) (r : Run), s.tuner.run = some r → s.req.phase = .ready →
    (r.notDone ≠ 0 → endRunIfDone s = s) ∧
    (r.notDone = 0 → endRunIfDone s = { s with
      link := noticedLink (.tuneDone r.origin r.passed r.failed false) s.link
      tuner := { s.tuner with
        run := none
        retuneDue := if s.tuner.cfg.autoRetune = true ∧ s.tuner.retuneSet ≠ 0 then true else s.tuner.retuneDue } }))

/-- R126, R130, R137: no signal in the search of a voice's OSC A makes its record VOID with last result NO SIGNAL and its codes kept, counts SOURCES
FAILED and one more failed source of the run, and the Tuner goes on to OSC B in scope; no other record changes, and the TUNING voice is
left alone. R45, R46, R126: a CALIBRATION write replaces its record. A FILTER record changes the filter-nominal flag and computes the
voice. An OSC record made VOID benches an IDLE voice, damps a sounding one, cancels a pending entry, and updates the reason of a BENCHED
one, with a BENCH notice for a voice not yet notified; a write that leaves both OSC records of a BENCHED voice VALID makes it IDLE, with
its notice; otherwise a VALID record computes the voice. An OSC A write clears the drift count and takes the voice out of the retune set.
The timeout is taken whatever ticks are left (log entry 2), and a voice damped to no assignment keeps its unison index (log entry 22). -/
def Obligations.NoSignalVoidsTheRecord : Prop :=
  (∀ (s : State) (j : SourceJob) (r : Run), s.inReset = false → s.tuner.counter = .armed ∨ s.tuner.counter = .counting →
    s.tuner.job = some j → j.source = .oscA → (s.voice j.voice).state = .tuning → s.tuner.run = some r → r.sources.getLsbD 1 = true →
    ∃ t, exec .noSignalTimeout s = .next t ∧
      t.tuner.cal = s.tuner.cal.set (3 * j.voice.val) { s.cal j.voice .oscA with valid := false, last := .noSignal } ∧
      t.link = s.link.bump .sourcesFailed ∧ t.tuner.run = some { r with failed := r.failed + 1 } ∧
      t.tuner.driftCount = s.tuner.driftCount.set j.voice 0 ∧
      t.tuner.retuneSet = s.tuner.retuneSet &&& ~~~ (1#16 <<< j.voice.val) ∧
      t.tuner.selection = some (j.voice, .oscB) ∧ t.vlink = s.vlink.place (.select j.voice .oscB) ∧
      (∃ k, t.tuner.job = some k ∧ k.voice = j.voice ∧ k.source = .oscB ∧ k.bp = s.tuner.cfg.firstBp ∧
        t.pitch = { s.pitch with
          slots := s.pitch.slots.set j.voice (s.pitch.slots[j.voice].set 1 (BitVec.ofInt 16 k.code)) }) ∧
      { t.tuner with cal := s.tuner.cal, counter := s.tuner.counter, noSignal := s.tuner.noSignal, settle := s.tuner.settle,
                     meas := s.tuner.meas, job := s.tuner.job, run := s.tuner.run, selection := s.tuner.selection,
                     driftCount := s.tuner.driftCount, retuneSet := s.tuner.retuneSet } = s.tuner ∧
      { t with tuner := s.tuner, link := s.link, vlink := s.vlink, pitch := s.pitch } = s) ∧
  (∀ (s : State) (i : Fin 48) (r : CalRecord), s.req.phase = .ready → VoiceListsOk s.alloc → s.tuner.run = none →
    let v : VoiceId := ⟨i.val / 3, by omega⟩
    let t := writeCal i r s
    let a := { s with tuner := { s.tuner with cal := s.tuner.cal.set i r } }
    let set (x : VoiceRec) := { a with alloc := { s.alloc with voices := s.alloc.voices.set v x } }
    let ends (u : State) := t = if i.val % 3 = 0 then { u with tuner := { u.tuner with
      driftCount := u.tuner.driftCount.set v 0, retuneSet := u.tuner.retuneSet &&& ~~~ (1#16 <<< v.val) } } else u
    let tells (b : Bool) (u : State) := ends (if (s.voice v).notified = b then u else benchTold v b u)
    let why := { s.voice v with benchA := !(a.cal v .oscA).valid, benchB := !(a.cal v .oscB).valid }
    let quiet := { why with owner := none, pending := .none, release := none, damp := none }
    (i.val % 3 = 2 → t = computeVoice v { a with pitch := { s.pitch with filterNominal := s.pitch.filterNominal.set v (!r.valid) } }) ∧
    (i.val % 3 ≠ 2 → r.valid = false →
      ((s.voice v).state = .idle → tells true
        (let b := set { quiet with state := .benched }
         { b with alloc := { b.alloc with freeQueue := s.alloc.freeQueue.filter (· ≠ v) } })) ∧
      ((s.voice v).state.sounding = true → tells true (takeVoice v .none (fun _ => true) a)) ∧
      ((s.voice v).state = .damping →
        (∀ p e x, (s.voice v).pending = .entry p e → s.entry e = some x →
          let b := set { s.voice v with pending := .none, owner := none }
          tells true (if (s.part p).mode = .poly then b.withRouter (s.router.withEntry e (some { x with state := .waiting, voices := 0 }))
            else b)) ∧
        ((∀ p e, (s.voice v).pending ≠ .entry p e) → tells true a)) ∧
      ((s.voice v).state = .benched → tells true (set why))) ∧
    (i.val % 3 ≠ 2 → r.valid = true →
      ((s.voice v).state ≠ .benched → (s.voice v).state ≠ .tuning → ends (computeVoice v a)) ∧
      ((s.voice v).state = .benched → a.oscValid v = false → ends (set why)) ∧
      ((s.voice v).state = .benched → a.oscValid v = true → (∀ p, (s.part p).revive = false) → ends (benchTold v false
        (let b := set { quiet with state := .idle }
         { b with alloc := { b.alloc with freeQueue := s.alloc.freeQueue ++ [v] } })))))

/-- R144, R146: the drift period restarts at its expiry and starts no check while a run is active or a check in progress; otherwise the first voice in
cyclic order after the last checked one that is IDLE with a VALID OSC A record becomes TUNING and is measured at the middle breakpoint, and
with no such voice the check is skipped. R144, R145: at the end of a check TUNE RELEASE is placed and the voice returned; a clean check clears its drift
count, a drifting one raises it, and the confirming one clears it, offers DRIFT, counts DRIFT ALARMS and puts the voice into the retune
set; NO SIGNAL makes the record VOID. That the voice is returned before its error is judged is the model's choice (log entry 12), and the
expiries and COUNT_SATURATED are taken whatever ticks and count State holds (log entry 2). The count compared is the count so far and the operand (log entry 11). R146: a retune run that is due
while auto retune is on takes the retune set as its scope and empties it; while it is off none starts. That a run is due is a field of
the model (log entry 9). R129, R144, R146: the drift timer and the run due at a write of TUNE CONFIG. -/
def Obligations.DriftWatch : Prop :=
  (∀ (s : State) (n : Nat) (v : VoiceId), s.inReset = false →
    let timer := if s.tuner.cfg.driftPeriod = 0 then none else some (16000 * (1000 * s.tuner.cfg.driftPeriod))
    let b := (s.tuner.cfg.firstBp + s.tuner.cfg.lastBp) / 2
    let qualifies (u : VoiceId) := (s.voice u).state = .idle ∧ (s.cal u .oscA).valid = true
    (s.tuner.driftTimer = some n → s.tuner.run ≠ none ∨ s.tuner.check ≠ none →
      exec .driftPeriodExpiry s = .next { s with tuner := { s.tuner with driftTimer := timer } }) ∧
    (s.tuner.driftTimer = some n → (∀ u, ¬qualifies u) →
      exec .driftPeriodExpiry s = .next { s with tuner := { s.tuner with driftTimer := timer } }) ∧
    (∀ i : Nat, s.tuner.driftTimer = some n → s.tuner.run = none → s.tuner.check = none → VoiceListsOk s.alloc →
      i < 16 → v.val = (s.tuner.lastChecked.val + 1 + i) % 16 → qualifies v →
      (∀ j < i, ∀ u : VoiceId, u.val = (s.tuner.lastChecked.val + 1 + j) % 16 → ¬qualifies u) →
      ∃ t, exec .driftPeriodExpiry s = .next t ∧ t.tuner.driftTimer = timer ∧
        (∀ k : Fin 17, k.val = b → t.tuner.check = some
          { voice := v, bp := b, w := (s.tuner.target[k]).w, t := (s.tuner.target[k]).t, shift := s.tuner.cfg.driftShift }) ∧
        t.tuner.check.map (fun c => (c.voice, c.bp)) = some (v, b) ∧ t.tuner.selection = some (v, .oscA) ∧
        t.alloc = { s.alloc with
          voices := s.alloc.voices.set v { s.voice v with
            state := .tuning, owner := none, pending := .none, q := none, release := none, damp := none }
          freeQueue := s.alloc.freeQueue.filter (· ≠ v) } ∧
        t.pitch.slots[v][0] = BitVec.ofInt 16 (codeAt (s.cal v .oscA).codes b) ∧ t.vlink = s.vlink.place (.select v .oscA) ∧
        { t.tuner with driftTimer := s.tuner.driftTimer, check := s.tuner.check, selection := s.tuner.selection,
                       meas := s.tuner.meas } = s.tuner ∧
        { t with tuner := s.tuner, alloc := s.alloc, pitch := s.pitch, vlink := s.vlink } = s) ∧
    (s.tuner.cfg.autoRetune = true → s.tuner.retuneDue = true → s.tuner.retuneSet ≠ 0 → s.tuner.run = none →
      let a := abandonCheck s
      exec .retuneRunStart s = .next { a with tuner := { a.tuner with
        retuneDue := false, retuneSet := 0, run := some (freshRun .drift .background a.tuner.retuneSet 7) } }) ∧
    (s.tuner.cfg.autoRetune = false →
      exec .retuneRunStart s = .next { s with tuner := { s.tuner with retuneDue := false } })) ∧
  (∀ (s : State) (m : Measurement) (c : DriftCheck) (n : Nat), s.inReset = false → s.req.phase = .ready → s.tuner.meas = some m →
    s.tuner.counter = .counting → s.tuner.job = none → s.tuner.check = some c →
    let back (u : State) :=
      let ended := tuneReleased (measurementOver u)
      let x := settleVoice c.voice { ended with tuner := { ended.tuner with check := none } }
      { x with tuner := { x.tuner with lastChecked := c.voice } }
    let r := back s
    let limit := c.t / 2 ^ c.shift
    let counted (k : Nat) := { r.tuner with driftCount := r.tuner.driftCount.set c.voice k }
    let judged (err : Nat) :=
      if err ≤ limit then { r with tuner := counted 0 }
      else if r.tuner.driftCount[c.voice] + 1 < s.tuner.cfg.confirm then { r with tuner := counted (r.tuner.driftCount[c.voice] + 1) }
      else { r with
        link := (noticedLink (.drift c.voice c.bp err) r.link).bump .driftAlarms
        tuner := if r.tuner.retuneSet.getLsbD c.voice.val then counted 0 else { counted 0 with
          retuneSet := r.tuner.retuneSet ||| 1#16 <<< c.voice.val
          retuneDue := if r.tuner.cfg.autoRetune = true ∧ r.tuner.run = none then true else r.tuner.retuneDue } }
    (m.w ≤ s.tuner.edges + 1 → s.tuner.count + n < 16777215 → exec (.tuneEdge n) s = .next
      (judged (max (s.tuner.count + n) c.t - min (s.tuner.count + n) c.t))) ∧
    exec .countSaturated s = .next (judged (16777215 - c.t)) ∧
    ((s.voice c.voice).state = .tuning → exec .noSignalTimeout s = .next (back { s with tuner := { s.tuner with
      cal := s.tuner.cal.set (3 * c.voice.val) { s.cal c.voice .oscA with valid := false, last := .noSignal }
      driftCount := s.tuner.driftCount.set c.voice 0, retuneSet := s.tuner.retuneSet &&& ~~~ (1#16 <<< c.voice.val) } }))) ∧
  (∀ (s : State) (c : TuneConfig), writeTuneConfig c s = { s with tuner := { s.tuner with
    cfg := c
    driftTimer := if c.driftPeriod = 0 then none
      else if s.tuner.cfg.driftPeriod = 0 then some (16000 * (1000 * c.driftPeriod)) else s.tuner.driftTimer
    retuneDue := if c.autoRetune = false then false
      else if s.tuner.cfg.autoRetune = false ∧ s.tuner.retuneSet ≠ 0 ∧ s.tuner.run = none then true else s.tuner.retuneDue } })
end

