-- ==== Sys2Proof/Laws/State.lean ====
section
/-! SUPPORT. One lemma per field per update of State: what a whole-block update leaves and what it sets. -/

namespace Sys2Proof.Machine

open Sys2Proof

variable (s : State)

/-! ## withLink -/

@[simp] theorem State.withLink_inReset (x : Link) : (s.withLink x).inReset = s.inReset := rfl
@[simp] theorem State.withLink_link (x : Link) : (s.withLink x).link = x := rfl
@[simp] theorem State.withLink_req (x : Link) : (s.withLink x).req = s.req := rfl
@[simp] theorem State.withLink_router (x : Link) : (s.withLink x).router = s.router := rfl
@[simp] theorem State.withLink_alloc (x : Link) : (s.withLink x).alloc = s.alloc := rfl
@[simp] theorem State.withLink_pitch (x : Link) : (s.withLink x).pitch = s.pitch := rfl
@[simp] theorem State.withLink_params (x : Link) : (s.withLink x).params = s.params := rfl
@[simp] theorem State.withLink_panel (x : Link) : (s.withLink x).panel = s.panel := rfl
@[simp] theorem State.withLink_store (x : Link) : (s.withLink x).store = s.store := rfl
@[simp] theorem State.withLink_tuner (x : Link) : (s.withLink x).tuner = s.tuner := rfl
@[simp] theorem State.withLink_vlink (x : Link) : (s.withLink x).vlink = s.vlink := rfl
@[simp] theorem State.withLink_freeCount (x : Link) : (s.withLink x).freeCount = s.freeCount := rfl
@[simp] theorem State.withLink_pending (x : Link) : (s.withLink x).pending = s.pending := rfl
@[simp] theorem State.withLink_withLink (x y : Link) : (s.withLink x).withLink y = s.withLink y := rfl

/-! ## withReq -/

@[simp] theorem State.withReq_inReset (x : ReqProc) : (s.withReq x).inReset = s.inReset := rfl
@[simp] theorem State.withReq_link (x : ReqProc) : (s.withReq x).link = s.link := rfl
@[simp] theorem State.withReq_req (x : ReqProc) : (s.withReq x).req = x := rfl
@[simp] theorem State.withReq_router (x : ReqProc) : (s.withReq x).router = s.router := rfl
@[simp] theorem State.withReq_alloc (x : ReqProc) : (s.withReq x).alloc = s.alloc := rfl
@[simp] theorem State.withReq_pitch (x : ReqProc) : (s.withReq x).pitch = s.pitch := rfl
@[simp] theorem State.withReq_params (x : ReqProc) : (s.withReq x).params = s.params := rfl
@[simp] theorem State.withReq_panel (x : ReqProc) : (s.withReq x).panel = s.panel := rfl
@[simp] theorem State.withReq_store (x : ReqProc) : (s.withReq x).store = s.store := rfl
@[simp] theorem State.withReq_tuner (x : ReqProc) : (s.withReq x).tuner = s.tuner := rfl
@[simp] theorem State.withReq_vlink (x : ReqProc) : (s.withReq x).vlink = s.vlink := rfl
@[simp] theorem State.withReq_freeCount (x : ReqProc) : (s.withReq x).freeCount = s.freeCount := rfl
@[simp] theorem State.withReq_pending (x : ReqProc) : (s.withReq x).pending = s.pending := rfl
@[simp] theorem State.withReq_withReq (x y : ReqProc) : (s.withReq x).withReq y = s.withReq y := rfl

/-! ## withRouter -/

@[simp] theorem State.withRouter_inReset (x : Router) : (s.withRouter x).inReset = s.inReset := rfl
@[simp] theorem State.withRouter_link (x : Router) : (s.withRouter x).link = s.link := rfl
@[simp] theorem State.withRouter_req (x : Router) : (s.withRouter x).req = s.req := rfl
@[simp] theorem State.withRouter_router (x : Router) : (s.withRouter x).router = x := rfl
@[simp] theorem State.withRouter_alloc (x : Router) : (s.withRouter x).alloc = s.alloc := rfl
@[simp] theorem State.withRouter_pitch (x : Router) : (s.withRouter x).pitch = s.pitch := rfl
@[simp] theorem State.withRouter_params (x : Router) : (s.withRouter x).params = s.params := rfl
@[simp] theorem State.withRouter_panel (x : Router) : (s.withRouter x).panel = s.panel := rfl
@[simp] theorem State.withRouter_store (x : Router) : (s.withRouter x).store = s.store := rfl
@[simp] theorem State.withRouter_tuner (x : Router) : (s.withRouter x).tuner = s.tuner := rfl
@[simp] theorem State.withRouter_vlink (x : Router) : (s.withRouter x).vlink = s.vlink := rfl
@[simp] theorem State.withRouter_freeCount (x : Router) : (s.withRouter x).freeCount = s.freeCount := rfl
@[simp] theorem State.withRouter_pending (x : Router) : (s.withRouter x).pending = s.pending := rfl
@[simp] theorem State.withRouter_withRouter (x y : Router) : (s.withRouter x).withRouter y = s.withRouter y := rfl

/-! ## withAlloc -/

@[simp] theorem State.withAlloc_inReset (x : Alloc) : (s.withAlloc x).inReset = s.inReset := rfl
@[simp] theorem State.withAlloc_link (x : Alloc) : (s.withAlloc x).link = s.link := rfl
@[simp] theorem State.withAlloc_req (x : Alloc) : (s.withAlloc x).req = s.req := rfl
@[simp] theorem State.withAlloc_router (x : Alloc) : (s.withAlloc x).router = s.router := rfl
@[simp] theorem State.withAlloc_alloc (x : Alloc) : (s.withAlloc x).alloc = x := rfl
@[simp] theorem State.withAlloc_pitch (x : Alloc) : (s.withAlloc x).pitch = s.pitch := rfl
@[simp] theorem State.withAlloc_params (x : Alloc) : (s.withAlloc x).params = s.params := rfl
@[simp] theorem State.withAlloc_panel (x : Alloc) : (s.withAlloc x).panel = s.panel := rfl
@[simp] theorem State.withAlloc_store (x : Alloc) : (s.withAlloc x).store = s.store := rfl
@[simp] theorem State.withAlloc_tuner (x : Alloc) : (s.withAlloc x).tuner = s.tuner := rfl
@[simp] theorem State.withAlloc_vlink (x : Alloc) : (s.withAlloc x).vlink = s.vlink := rfl
@[simp] theorem State.withAlloc_freeCount (x : Alloc) : (s.withAlloc x).freeCount = s.freeCount := rfl
@[simp] theorem State.withAlloc_pending (x : Alloc) : (s.withAlloc x).pending = s.pending := rfl
@[simp] theorem State.withAlloc_withAlloc (x y : Alloc) : (s.withAlloc x).withAlloc y = s.withAlloc y := rfl

/-! ## withPitch -/

@[simp] theorem State.withPitch_inReset (x : Pitch) : (s.withPitch x).inReset = s.inReset := rfl
@[simp] theorem State.withPitch_link (x : Pitch) : (s.withPitch x).link = s.link := rfl
@[simp] theorem State.withPitch_req (x : Pitch) : (s.withPitch x).req = s.req := rfl
@[simp] theorem State.withPitch_router (x : Pitch) : (s.withPitch x).router = s.router := rfl
@[simp] theorem State.withPitch_alloc (x : Pitch) : (s.withPitch x).alloc = s.alloc := rfl
@[simp] theorem State.withPitch_pitch (x : Pitch) : (s.withPitch x).pitch = x := rfl
@[simp] theorem State.withPitch_params (x : Pitch) : (s.withPitch x).params = s.params := rfl
@[simp] theorem State.withPitch_panel (x : Pitch) : (s.withPitch x).panel = s.panel := rfl
@[simp] theorem State.withPitch_store (x : Pitch) : (s.withPitch x).store = s.store := rfl
@[simp] theorem State.withPitch_tuner (x : Pitch) : (s.withPitch x).tuner = s.tuner := rfl
@[simp] theorem State.withPitch_vlink (x : Pitch) : (s.withPitch x).vlink = s.vlink := rfl
@[simp] theorem State.withPitch_freeCount (x : Pitch) : (s.withPitch x).freeCount = s.freeCount := rfl
@[simp] theorem State.withPitch_pending (x : Pitch) : (s.withPitch x).pending = s.pending := rfl
@[simp] theorem State.withPitch_withPitch (x y : Pitch) : (s.withPitch x).withPitch y = s.withPitch y := rfl

/-! ## withParams -/

@[simp] theorem State.withParams_inReset (x : ParamMem) : (s.withParams x).inReset = s.inReset := rfl
@[simp] theorem State.withParams_link (x : ParamMem) : (s.withParams x).link = s.link := rfl
@[simp] theorem State.withParams_req (x : ParamMem) : (s.withParams x).req = s.req := rfl
@[simp] theorem State.withParams_router (x : ParamMem) : (s.withParams x).router = s.router := rfl
@[simp] theorem State.withParams_alloc (x : ParamMem) : (s.withParams x).alloc = s.alloc := rfl
@[simp] theorem State.withParams_pitch (x : ParamMem) : (s.withParams x).pitch = s.pitch := rfl
@[simp] theorem State.withParams_params (x : ParamMem) : (s.withParams x).params = x := rfl
@[simp] theorem State.withParams_panel (x : ParamMem) : (s.withParams x).panel = s.panel := rfl
@[simp] theorem State.withParams_store (x : ParamMem) : (s.withParams x).store = s.store := rfl
@[simp] theorem State.withParams_tuner (x : ParamMem) : (s.withParams x).tuner = s.tuner := rfl
@[simp] theorem State.withParams_vlink (x : ParamMem) : (s.withParams x).vlink = s.vlink := rfl
@[simp] theorem State.withParams_freeCount (x : ParamMem) : (s.withParams x).freeCount = s.freeCount := rfl
@[simp] theorem State.withParams_pending (x : ParamMem) : (s.withParams x).pending = s.pending := rfl
@[simp] theorem State.withParams_withParams (x y : ParamMem) : (s.withParams x).withParams y = s.withParams y := rfl

/-! ## withPanel -/

@[simp] theorem State.withPanel_inReset (x : Panel) : (s.withPanel x).inReset = s.inReset := rfl
@[simp] theorem State.withPanel_link (x : Panel) : (s.withPanel x).link = s.link := rfl
@[simp] theorem State.withPanel_req (x : Panel) : (s.withPanel x).req = s.req := rfl
@[simp] theorem State.withPanel_router (x : Panel) : (s.withPanel x).router = s.router := rfl
@[simp] theorem State.withPanel_alloc (x : Panel) : (s.withPanel x).alloc = s.alloc := rfl
@[simp] theorem State.withPanel_pitch (x : Panel) : (s.withPanel x).pitch = s.pitch := rfl
@[simp] theorem State.withPanel_params (x : Panel) : (s.withPanel x).params = s.params := rfl
@[simp] theorem State.withPanel_panel (x : Panel) : (s.withPanel x).panel = x := rfl
@[simp] theorem State.withPanel_store (x : Panel) : (s.withPanel x).store = s.store := rfl
@[simp] theorem State.withPanel_tuner (x : Panel) : (s.withPanel x).tuner = s.tuner := rfl
@[simp] theorem State.withPanel_vlink (x : Panel) : (s.withPanel x).vlink = s.vlink := rfl
@[simp] theorem State.withPanel_freeCount (x : Panel) : (s.withPanel x).freeCount = s.freeCount := rfl
@[simp] theorem State.withPanel_pending (x : Panel) : (s.withPanel x).pending = s.pending := rfl
@[simp] theorem State.withPanel_withPanel (x y : Panel) : (s.withPanel x).withPanel y = s.withPanel y := rfl

/-! ## withStore -/

@[simp] theorem State.withStore_inReset (x : Store) : (s.withStore x).inReset = s.inReset := rfl
@[simp] theorem State.withStore_link (x : Store) : (s.withStore x).link = s.link := rfl
@[simp] theorem State.withStore_req (x : Store) : (s.withStore x).req = s.req := rfl
@[simp] theorem State.withStore_router (x : Store) : (s.withStore x).router = s.router := rfl
@[simp] theorem State.withStore_alloc (x : Store) : (s.withStore x).alloc = s.alloc := rfl
@[simp] theorem State.withStore_pitch (x : Store) : (s.withStore x).pitch = s.pitch := rfl
@[simp] theorem State.withStore_params (x : Store) : (s.withStore x).params = s.params := rfl
@[simp] theorem State.withStore_panel (x : Store) : (s.withStore x).panel = s.panel := rfl
@[simp] theorem State.withStore_store (x : Store) : (s.withStore x).store = x := rfl
@[simp] theorem State.withStore_tuner (x : Store) : (s.withStore x).tuner = s.tuner := rfl
@[simp] theorem State.withStore_vlink (x : Store) : (s.withStore x).vlink = s.vlink := rfl
@[simp] theorem State.withStore_freeCount (x : Store) : (s.withStore x).freeCount = s.freeCount := rfl
@[simp] theorem State.withStore_pending (x : Store) : (s.withStore x).pending = s.pending := rfl
@[simp] theorem State.withStore_withStore (x y : Store) : (s.withStore x).withStore y = s.withStore y := rfl

/-! ## withTuner -/

@[simp] theorem State.withTuner_inReset (x : Tuner) : (s.withTuner x).inReset = s.inReset := rfl
@[simp] theorem State.withTuner_link (x : Tuner) : (s.withTuner x).link = s.link := rfl
@[simp] theorem State.withTuner_req (x : Tuner) : (s.withTuner x).req = s.req := rfl
@[simp] theorem State.withTuner_router (x : Tuner) : (s.withTuner x).router = s.router := rfl
@[simp] theorem State.withTuner_alloc (x : Tuner) : (s.withTuner x).alloc = s.alloc := rfl
@[simp] theorem State.withTuner_pitch (x : Tuner) : (s.withTuner x).pitch = s.pitch := rfl
@[simp] theorem State.withTuner_params (x : Tuner) : (s.withTuner x).params = s.params := rfl
@[simp] theorem State.withTuner_panel (x : Tuner) : (s.withTuner x).panel = s.panel := rfl
@[simp] theorem State.withTuner_store (x : Tuner) : (s.withTuner x).store = s.store := rfl
@[simp] theorem State.withTuner_tuner (x : Tuner) : (s.withTuner x).tuner = x := rfl
@[simp] theorem State.withTuner_vlink (x : Tuner) : (s.withTuner x).vlink = s.vlink := rfl
@[simp] theorem State.withTuner_freeCount (x : Tuner) : (s.withTuner x).freeCount = s.freeCount := rfl
@[simp] theorem State.withTuner_pending (x : Tuner) : (s.withTuner x).pending = s.pending := rfl
@[simp] theorem State.withTuner_withTuner (x y : Tuner) : (s.withTuner x).withTuner y = s.withTuner y := rfl

/-! ## withVlink -/

@[simp] theorem State.withVlink_inReset (x : VLink) : (s.withVlink x).inReset = s.inReset := rfl
@[simp] theorem State.withVlink_link (x : VLink) : (s.withVlink x).link = s.link := rfl
@[simp] theorem State.withVlink_req (x : VLink) : (s.withVlink x).req = s.req := rfl
@[simp] theorem State.withVlink_router (x : VLink) : (s.withVlink x).router = s.router := rfl
@[simp] theorem State.withVlink_alloc (x : VLink) : (s.withVlink x).alloc = s.alloc := rfl
@[simp] theorem State.withVlink_pitch (x : VLink) : (s.withVlink x).pitch = s.pitch := rfl
@[simp] theorem State.withVlink_params (x : VLink) : (s.withVlink x).params = s.params := rfl
@[simp] theorem State.withVlink_panel (x : VLink) : (s.withVlink x).panel = s.panel := rfl
@[simp] theorem State.withVlink_store (x : VLink) : (s.withVlink x).store = s.store := rfl
@[simp] theorem State.withVlink_tuner (x : VLink) : (s.withVlink x).tuner = s.tuner := rfl
@[simp] theorem State.withVlink_vlink (x : VLink) : (s.withVlink x).vlink = x := rfl
@[simp] theorem State.withVlink_freeCount (x : VLink) : (s.withVlink x).freeCount = s.freeCount := rfl
@[simp] theorem State.withVlink_pending (x : VLink) : (s.withVlink x).pending = s.pending := rfl
@[simp] theorem State.withVlink_withVlink (x y : VLink) : (s.withVlink x).withVlink y = s.withVlink y := rfl

/-! ## withPending -/

@[simp] theorem State.withPending_inReset (q : List Instr) : (s.withPending q).inReset = s.inReset := rfl
@[simp] theorem State.withPending_link (q : List Instr) : (s.withPending q).link = s.link := rfl
@[simp] theorem State.withPending_req (q : List Instr) : (s.withPending q).req = s.req := rfl
@[simp] theorem State.withPending_router (q : List Instr) : (s.withPending q).router = s.router := rfl
@[simp] theorem State.withPending_alloc (q : List Instr) : (s.withPending q).alloc = s.alloc := rfl
@[simp] theorem State.withPending_pitch (q : List Instr) : (s.withPending q).pitch = s.pitch := rfl
@[simp] theorem State.withPending_params (q : List Instr) : (s.withPending q).params = s.params := rfl
@[simp] theorem State.withPending_panel (q : List Instr) : (s.withPending q).panel = s.panel := rfl
@[simp] theorem State.withPending_store (q : List Instr) : (s.withPending q).store = s.store := rfl
@[simp] theorem State.withPending_tuner (q : List Instr) : (s.withPending q).tuner = s.tuner := rfl
@[simp] theorem State.withPending_vlink (q : List Instr) : (s.withPending q).vlink = s.vlink := rfl
@[simp] theorem State.withPending_freeCount (q : List Instr) : (s.withPending q).freeCount = s.freeCount := rfl
@[simp] theorem State.withPending_pending (q : List Instr) : (s.withPending q).pending = q := rfl

/-! ## Voices and the held-key pool -/

@[simp] theorem State.modVoice_inReset (v : VoiceId) (f : VoiceRec → VoiceRec) : (s.modVoice v f).inReset = s.inReset := rfl
@[simp] theorem State.modVoice_link (v : VoiceId) (f : VoiceRec → VoiceRec) : (s.modVoice v f).link = s.link := rfl
@[simp] theorem State.modVoice_req (v : VoiceId) (f : VoiceRec → VoiceRec) : (s.modVoice v f).req = s.req := rfl
@[simp] theorem State.modVoice_router (v : VoiceId) (f : VoiceRec → VoiceRec) : (s.modVoice v f).router = s.router := rfl
@[simp] theorem State.modVoice_pitch (v : VoiceId) (f : VoiceRec → VoiceRec) : (s.modVoice v f).pitch = s.pitch := rfl
@[simp] theorem State.modVoice_params (v : VoiceId) (f : VoiceRec → VoiceRec) : (s.modVoice v f).params = s.params := rfl
@[simp] theorem State.modVoice_panel (v : VoiceId) (f : VoiceRec → VoiceRec) : (s.modVoice v f).panel = s.panel := rfl
@[simp] theorem State.modVoice_store (v : VoiceId) (f : VoiceRec → VoiceRec) : (s.modVoice v f).store = s.store := rfl
@[simp] theorem State.modVoice_tuner (v : VoiceId) (f : VoiceRec → VoiceRec) : (s.modVoice v f).tuner = s.tuner := rfl
@[simp] theorem State.modVoice_vlink (v : VoiceId) (f : VoiceRec → VoiceRec) : (s.modVoice v f).vlink = s.vlink := rfl
@[simp] theorem State.modVoice_freeCount (v : VoiceId) (f : VoiceRec → VoiceRec) : (s.modVoice v f).freeCount = s.freeCount := rfl
@[simp] theorem State.modVoice_pending (v : VoiceId) (f : VoiceRec → VoiceRec) : (s.modVoice v f).pending = s.pending := rfl

@[simp] theorem State.setEntry_inReset (e : PoolPos) (x : Option HeldEntry) : (s.setEntry e x).inReset = s.inReset := rfl
@[simp] theorem State.setEntry_link (e : PoolPos) (x : Option HeldEntry) : (s.setEntry e x).link = s.link := rfl
@[simp] theorem State.setEntry_req (e : PoolPos) (x : Option HeldEntry) : (s.setEntry e x).req = s.req := rfl
@[simp] theorem State.setEntry_alloc (e : PoolPos) (x : Option HeldEntry) : (s.setEntry e x).alloc = s.alloc := rfl
@[simp] theorem State.setEntry_pitch (e : PoolPos) (x : Option HeldEntry) : (s.setEntry e x).pitch = s.pitch := rfl
@[simp] theorem State.setEntry_params (e : PoolPos) (x : Option HeldEntry) : (s.setEntry e x).params = s.params := rfl
@[simp] theorem State.setEntry_panel (e : PoolPos) (x : Option HeldEntry) : (s.setEntry e x).panel = s.panel := rfl
@[simp] theorem State.setEntry_store (e : PoolPos) (x : Option HeldEntry) : (s.setEntry e x).store = s.store := rfl
@[simp] theorem State.setEntry_tuner (e : PoolPos) (x : Option HeldEntry) : (s.setEntry e x).tuner = s.tuner := rfl
@[simp] theorem State.setEntry_vlink (e : PoolPos) (x : Option HeldEntry) : (s.setEntry e x).vlink = s.vlink := rfl
@[simp] theorem State.setEntry_freeCount (e : PoolPos) (x : Option HeldEntry) : (s.setEntry e x).freeCount = s.freeCount := rfl
@[simp] theorem State.setEntry_pending (e : PoolPos) (x : Option HeldEntry) : (s.setEntry e x).pending = s.pending := rfl

@[simp] theorem State.modEntry_inReset (e : PoolPos) (f : HeldEntry → HeldEntry) : (s.modEntry e f).inReset = s.inReset := rfl
@[simp] theorem State.modEntry_link (e : PoolPos) (f : HeldEntry → HeldEntry) : (s.modEntry e f).link = s.link := rfl
@[simp] theorem State.modEntry_req (e : PoolPos) (f : HeldEntry → HeldEntry) : (s.modEntry e f).req = s.req := rfl
@[simp] theorem State.modEntry_alloc (e : PoolPos) (f : HeldEntry → HeldEntry) : (s.modEntry e f).alloc = s.alloc := rfl
@[simp] theorem State.modEntry_pitch (e : PoolPos) (f : HeldEntry → HeldEntry) : (s.modEntry e f).pitch = s.pitch := rfl
@[simp] theorem State.modEntry_params (e : PoolPos) (f : HeldEntry → HeldEntry) : (s.modEntry e f).params = s.params := rfl
@[simp] theorem State.modEntry_panel (e : PoolPos) (f : HeldEntry → HeldEntry) : (s.modEntry e f).panel = s.panel := rfl
@[simp] theorem State.modEntry_store (e : PoolPos) (f : HeldEntry → HeldEntry) : (s.modEntry e f).store = s.store := rfl
@[simp] theorem State.modEntry_tuner (e : PoolPos) (f : HeldEntry → HeldEntry) : (s.modEntry e f).tuner = s.tuner := rfl
@[simp] theorem State.modEntry_vlink (e : PoolPos) (f : HeldEntry → HeldEntry) : (s.modEntry e f).vlink = s.vlink := rfl
@[simp] theorem State.modEntry_freeCount (e : PoolPos) (f : HeldEntry → HeldEntry) : (s.modEntry e f).freeCount = s.freeCount := rfl
@[simp] theorem State.modEntry_pending (e : PoolPos) (f : HeldEntry → HeldEntry) : (s.modEntry e f).pending = s.pending := rfl

@[simp] theorem State.setPartList_inReset (p : PartId) (l : List PoolPos) : (s.setPartList p l).inReset = s.inReset := rfl
@[simp] theorem State.setPartList_link (p : PartId) (l : List PoolPos) : (s.setPartList p l).link = s.link := rfl
@[simp] theorem State.setPartList_req (p : PartId) (l : List PoolPos) : (s.setPartList p l).req = s.req := rfl
@[simp] theorem State.setPartList_alloc (p : PartId) (l : List PoolPos) : (s.setPartList p l).alloc = s.alloc := rfl
@[simp] theorem State.setPartList_pitch (p : PartId) (l : List PoolPos) : (s.setPartList p l).pitch = s.pitch := rfl
@[simp] theorem State.setPartList_params (p : PartId) (l : List PoolPos) : (s.setPartList p l).params = s.params := rfl
@[simp] theorem State.setPartList_panel (p : PartId) (l : List PoolPos) : (s.setPartList p l).panel = s.panel := rfl
@[simp] theorem State.setPartList_store (p : PartId) (l : List PoolPos) : (s.setPartList p l).store = s.store := rfl
@[simp] theorem State.setPartList_tuner (p : PartId) (l : List PoolPos) : (s.setPartList p l).tuner = s.tuner := rfl
@[simp] theorem State.setPartList_vlink (p : PartId) (l : List PoolPos) : (s.setPartList p l).vlink = s.vlink := rfl
@[simp] theorem State.setPartList_freeCount (p : PartId) (l : List PoolPos) : (s.setPartList p l).freeCount = s.freeCount := rfl
@[simp] theorem State.setPartList_pending (p : PartId) (l : List PoolPos) : (s.setPartList p l).pending = s.pending := rfl

@[simp] theorem State.setSustain_inReset (p : PartId) (b : Bool) : (s.setSustain p b).inReset = s.inReset := rfl
@[simp] theorem State.setSustain_link (p : PartId) (b : Bool) : (s.setSustain p b).link = s.link := rfl
@[simp] theorem State.setSustain_req (p : PartId) (b : Bool) : (s.setSustain p b).req = s.req := rfl
@[simp] theorem State.setSustain_alloc (p : PartId) (b : Bool) : (s.setSustain p b).alloc = s.alloc := rfl
@[simp] theorem State.setSustain_pitch (p : PartId) (b : Bool) : (s.setSustain p b).pitch = s.pitch := rfl
@[simp] theorem State.setSustain_params (p : PartId) (b : Bool) : (s.setSustain p b).params = s.params := rfl
@[simp] theorem State.setSustain_panel (p : PartId) (b : Bool) : (s.setSustain p b).panel = s.panel := rfl
@[simp] theorem State.setSustain_store (p : PartId) (b : Bool) : (s.setSustain p b).store = s.store := rfl
@[simp] theorem State.setSustain_tuner (p : PartId) (b : Bool) : (s.setSustain p b).tuner = s.tuner := rfl
@[simp] theorem State.setSustain_vlink (p : PartId) (b : Bool) : (s.setSustain p b).vlink = s.vlink := rfl
@[simp] theorem State.setSustain_freeCount (p : PartId) (b : Bool) : (s.setSustain p b).freeCount = s.freeCount := rfl
@[simp] theorem State.setSustain_pending (p : PartId) (b : Bool) : (s.setSustain p b).pending = s.pending := rfl

@[simp] theorem State.modVoice_freeQueue (v : VoiceId) (f : VoiceRec → VoiceRec) : (s.modVoice v f).alloc.freeQueue = s.alloc.freeQueue := rfl
@[simp] theorem State.modVoice_gateList (v : VoiceId) (f : VoiceRec → VoiceRec) : (s.modVoice v f).alloc.gateList = s.alloc.gateList := rfl
@[simp] theorem State.modVoice_releaseList (v : VoiceId) (f : VoiceRec → VoiceRec) : (s.modVoice v f).alloc.releaseList = s.alloc.releaseList := rfl

/-- A voice's record after a change of it. -/
@[simp] theorem State.voice_modVoice_same (v : VoiceId) (f : VoiceRec → VoiceRec) : (s.modVoice v f).voice v = f (s.voice v) := by
  simp [State.voice, State.modVoice, State.withAlloc]

/-- Another voice's record after a change of one. -/
theorem State.voice_modVoice_other {v w : VoiceId} (h : w ≠ v) (f : VoiceRec → VoiceRec) :
    (s.modVoice v f).voice w = s.voice w := by
  have h' : (v : Nat) ≠ w := fun e => h (Fin.ext e.symm)
  simp [State.voice, State.modVoice, State.withAlloc, Vector.getElem_set_ne, h']

end Sys2Proof.Machine
end

