-- ==== Sys2Proof/Laws/Changes.lean ====
section
/-! SUPPORT. Everything a command can do to the state, said once: `Change` lists the single changes, by block, and `exec_changes`
(Laws/Walk.lean) says that each command is a run of them. An invariant is kept by every step if each single change keeps it. -/

namespace Sys2Proof.Machine

open Sys2Proof

/-- One change of the state. With `w` false no configuration table is touched. -/
inductive Change (w : Bool) (s : State) : State → Prop where
  /-- the link, but for its three queues -/
  | link (l : Link) (h1 : l.requests = s.link.requests) (h2 : l.responses = s.link.responses)
      (h3 : l.notices = s.link.notices) : Change w s (s.withLink l)
  /-- a notice is placed (R171) -/
  | place (n : Notice) : Change w s (s.withLink (placeNotice n s.link))
  /-- the outbound line takes a response or a notice (R170) -/
  | start : Change w s (s.withLink (startOutbound s.link))
  /-- a response joins the FIFO and releases its request (R169) -/
  | join (r : Response) (h : s.link.responses.length < Config.responseCap) :
      Change w s (s.withLink { s.link with responses := s.link.responses ++ [r], requests := s.link.requests.tail })
  /-- a request joins its queue (R169) -/
  | queue (f : Frame) (h : s.link.requests.length < Config.requestCap) :
      Change w s (s.withLink { s.link with requests := s.link.requests ++ [f] })
  /-- a refill joins the notice queue (R174) -/
  | refill (l : Link) (n : Notice) (h : s.link.notices.length < Config.noticeCap) (h1 : l.requests = s.link.requests)
      (h2 : l.responses = s.link.responses) (h3 : l.notices = s.link.notices ++ [n]) : Change w s (s.withLink l)
  | req (x : ReqProc) : Change w s (s.withReq x)
  /-- the Note Router, but for the held-key pool and its lists -/
  | router (x : Router) (h : w = false → x.zones = s.router.zones ∧ x.parts = s.router.parts) (hp : x.pool = s.router.pool)
      (hl : x.lists = s.router.lists) : Change w s (s.withRouter x)
  /-- an entry is made at a free position (R13) -/
  | add (p : PartId) (e : PoolPos) (ch : ChannelId) (key sounding vel : Key) (h : s.entry e = none) :
      Change w s (addEntry p e ch key sounding vel s)
  /-- an entry moves to the tail of its list (R14) -/
  | touch (p : PartId) (e : PoolPos) (vel : Key) (h : e ∈ s.partList p) : Change w s (touchEntry p e vel s)
  | remove (e : PoolPos) : Change w s (removeEntry e s)
  /-- an entry's fields, but for its part -/
  | entry (e : PoolPos) (f : HeldEntry → HeldEntry) (h : ∀ x, (f x).part = x.part) : Change w s (s.modEntry e f)
  | clear : Change w s (clearRouter s)
  | pitch (x : Pitch) (h : w = false → x.scale = s.pitch.scale) : Change w s (s.withPitch x)
  | panel (x : Panel) (h : w = false → x.scanMap = s.panel.scanMap ∧ x.controls = s.panel.controls) : Change w s (s.withPanel x)
  /-- a move of a voice between states (R22, R23) -/
  | move (v : VoiceId) (st : VoiceState) : Change w s (moveVoice v st s)
  /-- a voice's record, but for its state -/
  | voice (v : VoiceId) (f : VoiceRec → VoiceRec) (h : ∀ r, (f r).state = r.state) : Change w s (s.modVoice v f)
  | regate (v : VoiceId) : Change w s (regate v s)
  | rebuild : Change w s (rebuildVoices s)
  /-- the Parameter Memory: the pickup table does not grow beyond its capacity (R87) -/
  | params (x : ParamMem) (h : w = false → x.desc = s.params.desc)
      (hp : x.pickup.length ≤ s.params.pickup.length ∨ x.pickup.length ≤ Config.pickupCap) : Change w s (s.withParams x)
  /-- a gate command is issued (R151) -/
  | issue (v : VoiceId) (x : GateCmd) : Change w s (s.withVlink (s.vlink.issue v x))
  /-- the first command of a list has left (R154) -/
  | pop (v : VoiceId) : Change w s (s.withVlink (popCommand v s.vlink))
  | mute : Change w s (s.withVlink s.vlink.requestMute)
  | mark : Change w s (markDelivery s)
  /-- the Voice Link, but for the command lists and their queue -/
  | vlink (k : VLink) (h1 : k.lists = s.vlink.lists) (h2 : k.queue = s.vlink.queue) : Change w s (s.withVlink k)
  /-- the Store Controller, but for the memory: the queue does not grow beyond its capacity (R108) -/
  | store (x : Store) (h : w = false → x.options = s.store.options) (hm : x.mem = s.store.mem) (hf : x.memFitted = s.store.memFitted)
      (hq : x.queue.length ≤ s.store.queue.length ∨ x.queue.length ≤ Config.storeCap) : Change w s (s.withStore x)
  /-- bytes are written to the serial memory below 9000H (R106) -/
  | memory (a : Nat) (bytes : List Byte) (h : a + bytes.length ≤ 0x9000) :
      Change w s (s.withStore { s.store with mem := s.store.mem.writeRun a bytes })
  | tuner (x : Tuner) (h : w = false → x.target = s.tuner.target ∧ x.cfg = s.tuner.cfg) : Change w s (s.withTuner x)
  | free (n : Nat) : Change w s { s with freeCount := n }
  | hold (b : Bool) : Change w s { s with inReset := b }
  /-- every block takes its power-on values, the memory apart (R119) -/
  | restart (h : w = true) :
      Change w s { State.reset with
        store := { Store.powerOn with mem := s.store.mem, memFitted := s.store.memFitted }
        freeCount := s.freeCount
        pending := s.pending }

/-- A run of changes. -/
inductive Changes (w : Bool) (s : State) : State → Prop where
  | refl : Changes w s s
  | snoc {t u : State} : Changes w s t → Change w t u → Changes w s u

end Sys2Proof.Machine
end

