-- ==== Sys2Proof/Laws/Memory.lean ====
section
/-! SUPPORT. The serial memory (R106, R107): each operation keeps the canonical form, a read after a write gives the byte written, and a
write leaves every other byte alone. -/

namespace Sys2Proof.Machine

open Sys2Proof

namespace Memory

theorem wfFrom_mono {lo lo' : Nat} {m : Memory} (h : wfFrom lo m = true) (k : lo' ≤ lo) : wfFrom lo' m = true := by
  cases m with
  | nil => rfl
  | cons c t =>
    obtain ⟨a, x⟩ := c
    simp only [wfFrom, Bool.and_eq_true, decide_eq_true_eq] at h ⊢
    exact ⟨⟨⟨by omega, h.1.1.2⟩, h.1.2⟩, h.2⟩

/-- Below its first listed address a memory in canonical form reads blank. -/
theorem read_below {lo a : Nat} {m : Memory} (h : wfFrom lo m = true) (k : a < lo) : m.read a = blank := by
  induction m generalizing lo with
  | nil => rfl
  | cons c t ih =>
    obtain ⟨b, x⟩ := c
    simp only [wfFrom, Bool.and_eq_true, decide_eq_true_eq] at h
    have hb : b ≠ a := by omega
    simp only [read, hb, if_false]
    exact ih h.2 (by omega)

theorem write_wfFrom {lo a : Nat} {m : Memory} {x : Byte} (h : wfFrom lo m = true) (ha : a < 65536) (k : lo ≤ a) :
    wfFrom lo (m.write a x) = true := by
  induction m generalizing lo with
  | nil =>
    unfold write
    split
    · rfl
    · simp_all [wfFrom]
  | cons c t ih =>
    obtain ⟨b, y⟩ := c
    have h' := h
    simp only [wfFrom, Bool.and_eq_true, decide_eq_true_eq] at h
    unfold write
    split
    · split
      · exact h'
      · simp_all [wfFrom] <;> omega
    · split
      · split
        · exact wfFrom_mono h.2 (by omega)
        · subst_vars; simp_all [wfFrom]
      · simp only [wfFrom, Bool.and_eq_true, decide_eq_true_eq]
        exact ⟨h.1, ih h.2 (by omega)⟩

/-- A write keeps the canonical form. -/
theorem write_wf {a : Nat} {m : Memory} {x : Byte} (h : m.wf = true) (ha : a < 65536) : (m.write a x).wf = true :=
  write_wfFrom h ha (Nat.zero_le _)

/-- A read after a write. -/
theorem read_write {lo a b : Nat} {m : Memory} {x : Byte} (h : wfFrom lo m = true) :
    (m.write a x).read b = if b = a then x else m.read b := by
  induction m generalizing lo with
  | nil =>
    unfold write
    split
    · simp_all [read]
    · simp only [read, eq_comm (a := a)]
  | cons c t ih =>
    obtain ⟨e, y⟩ := c
    simp only [wfFrom, Bool.and_eq_true, decide_eq_true_eq] at h
    unfold write
    split
    · next hlt =>
      split
      · next hx =>
        by_cases hba : b = a
        · subst hba
          have : e ≠ b := by omega
          simp only [if_true, read, this, if_false, hx]
          exact read_below h.2 (by omega)
        · simp [hba]
      · by_cases hba : b = a
        · simp [read, hba]
        · simp [read, hba, Ne.symm hba]
    · split
      · next heq =>
        subst heq
        split
        · next hx =>
          by_cases hba : b = a
          · subst hba; simp only [if_true, hx]; exact read_below h.2 (by omega)
          · simp [read, hba, Ne.symm hba]
        · by_cases hba : b = a
          · simp [read, hba]
          · simp [read, hba, Ne.symm hba]
      · next hne =>
        by_cases hbe : e = b
        · subst hbe
          have : e ≠ a := by omega
          simp [read, this]
        · simp only [read, hbe, if_false]
          exact ih h.2

/-- A run of writes keeps the canonical form. -/
theorem writeRun_wf {a : Nat} {m : Memory} {bytes : List Byte} (h : m.wf = true) (ha : a + bytes.length ≤ 65536) :
    (m.writeRun a bytes).wf = true := by
  induction bytes generalizing a m with
  | nil => exact h
  | cons x xs ih =>
    simp only [List.length_cons] at ha
    exact ih (write_wf h (by omega)) (by omega)

/-- A read after a run of writes: inside the run the byte written, outside it the old byte. -/
theorem read_writeRun {a b : Nat} {m : Memory} {bytes : List Byte} (h : m.wf = true) (ha : a + bytes.length ≤ 65536) :
    (m.writeRun a bytes).read b = if a ≤ b ∧ b < a + bytes.length then bytes.getD (b - a) 0 else m.read b := by
  induction bytes generalizing a m with
  | nil =>
    have : ¬(a ≤ b ∧ b < a + ([] : List Byte).length) := by simp
    rw [if_neg this]
    rfl
  | cons x xs ih =>
    simp only [List.length_cons] at ha
    rw [writeRun, ih (write_wf h (by omega)) (by omega), read_write h]
    by_cases hb : b = a
    · subst hb
      have : ¬(b + 1 ≤ b ∧ b < b + 1 + xs.length) := by omega
      rw [if_neg this, if_pos rfl, if_pos (by simp)]
      simp
    · by_cases hr : a + 1 ≤ b ∧ b < a + 1 + xs.length
      · have h1 : a ≤ b ∧ b < a + (x :: xs).length := by simp only [List.length_cons]; omega
        rw [if_pos hr, if_pos h1]
        have : b - a = (b - (a + 1)) + 1 := by omega
        rw [this, List.getD_cons_succ]
      · have h1 : ¬(a ≤ b ∧ b < a + (x :: xs).length) := by simp only [List.length_cons]; omega
        rw [if_neg hr, if_neg h1, if_neg hb]

/-- Reading back what a run of writes wrote. -/
theorem readRun_writeRun {a : Nat} {m : Memory} {bytes : List Byte} (h : m.wf = true) (ha : a + bytes.length ≤ 65536) :
    (m.writeRun a bytes).readRun a bytes.length = bytes := by
  apply List.ext_getElem
  · simp [readRun]
  · intro i h1 h2
    simp only [readRun, List.getElem_map, List.getElem_range, read_writeRun h ha]
    rw [if_pos (by omega)]
    simp [h2]

end Memory

end Sys2Proof.Machine
end

