-- ==== Sys2Proof/Laws/Ops.lean ====
section
/-! SUPPORT. The shared operations case by case: what each answers, so that no proof unfolds it. -/

namespace Sys2Proof.Machine

open Sys2Proof

/-! ## Vectors -/

@[simp] theorem mapVec_get {α β : Type} {n : Nat} (f : α → β) (v : Vector α n) (i : Fin n) : (mapVec f v)[i] = f v[i] := by
  simp [mapVec]

theorem mapVec_eq_map {α β : Type} {n : Nat} (f : α → β) (v : Vector α n) : mapVec f v = v.map f := by
  ext i hi
  simp [mapVec]

/-! ## The form of a meaning -/

theorem act_running {f : State → State} {s : State} (h : s.inReset = false) : act f s = .next (f s) := by simp [act, h]

theorem act_held {f : State → State} {s : State} (h : s.inReset = true) : act f s = .next s := by simp [act, h]

theorem forEach_nil {α : Type} (f : α → State → State) (s : State) : forEach [] f s = s := rfl

theorem forEach_cons {α : Type} (x : α) (xs : List α) (f : α → State → State) (s : State) :
    forEach (x :: xs) f s = forEach xs f (f x s) := rfl

/-! ## Frames received (R165 to R167) -/

theorem acceptFrame_quiet {n : Nat} {s : State} (h : s.link.rx = .locked ∨ (s.link.rx = .candidate ∧ s.link.lossFlag = false)) :
    acceptFrame n s = s.withLink (afterGoodFrame n s.link) := by
  unfold acceptFrame reportLock
  rcases h with h | ⟨h1, h2⟩
  · simp only [h, reduceCtorEq, decide_false, Bool.false_and, Bool.false_eq_true, if_false]
    rfl
  · have hl : (bump .framesGood (s.withLink { s.link with
        rx := .locked, badRun := 0, held := s.link.held.drop n, silence := restartSilence s.link.silence })).link.lossFlag = false := h2
    simp only [hl, Bool.and_false, Bool.false_eq_true, if_false]
    rfl

/-- A good frame in CANDIDATE or LOCKED, without a LINK notice, is taken by its kind. -/
theorem receive_acts {f : Frame} {taken : State → State} {s : State} (h : actsOnFrames s) :
    receive f taken s = taken (s.withLink (afterGoodFrame (frameBytes f).length s.link)) := by
  have hq := acceptFrame_quiet (n := (frameBytes f).length) h.2
  unfold receive
  rcases h.2 with h | ⟨h, _⟩ <;> simp only [h, hq]

theorem receive_hunt {f : Frame} {taken : State → State} {s : State} (h : s.link.rx = .hunt) :
    receive f taken s = huntBytes (rxBytes f) s := by simp [receive, h]

theorem event_ready {taken : State → State} {s : State} (h : s.req.phase = .ready) : event taken s = taken s := by simp [event, h]

theorem event_early {taken : State → State} {s : State} (h : s.req.phase ≠ .ready) : event taken s = s := by simp [event, h]

theorem length_frameBytes (f : Frame) : (frameBytes f).length = f.payload.length + 3 := by simp [frameBytes]

/-! ## The outbound line and its queues (R169 to R173) -/

theorem startOutbound_busy {l : Link} {x : OutFrame} (h : l.line = some x) : startOutbound l = l := by simp [startOutbound, h]

theorem startOutbound_response {l : Link} {r : Response} {rs : List Response} (h : l.line = none) (k : l.responses = r :: rs) :
    startOutbound l = { l with line := some (.response r), responses := rs } := by simp [startOutbound, h, k]

theorem startOutbound_quiet {l : Link} (h : l.line = none) (h1 : l.responses = []) (h2 : l.notices = []) : startOutbound l = l := by
  simp [startOutbound, h, h1, h2]

theorem offerNotice_ready {n : Notice} {s : State} (h : s.req.phase = .ready) :
    offerNotice n s = s.withLink (startOutbound (placeNotice n s.link)) := by simp [offerNotice, h]

theorem offerNotice_early {n : Notice} {s : State} (h : s.req.phase ≠ .ready) : offerNotice n s = s := by simp [offerNotice, h]

theorem placeNotice_merge {n : Notice} {l : Link} (h : l.notices.any (Notice.sameKey n) = true) :
    placeNotice n l = { l with notices := l.notices.map (fun m => if n.sameKey m then m.merge n else m) } := by
  simp only [placeNotice, h, if_true]

theorem placeNotice_room {n : Notice} {l : Link} (h : l.notices.any (Notice.sameKey n) = false)
    (k : l.notices.length < Config.noticeCap) (c : n.control? = none) : placeNotice n l = { l with notices := l.notices ++ [n] } := by
  simp only [placeNotice, h, k, c, Bool.false_eq_true, if_false, if_true]

theorem placeNotice_full {n : Notice} {l : Link} (h : l.notices.any (Notice.sameKey n) = false)
    (k : Config.noticeCap ≤ l.notices.length) (c : n.control? = none) :
    placeNotice n l = { l.bump .noticesLost with lost := true } := by
  have : ¬ l.notices.length < Config.noticeCap := by omega
  simp only [placeNotice, h, this, c, Bool.false_eq_true, if_false]

theorem joinResponse_room {r : Response} {s : State} (h : s.link.responses.length < Config.responseCap) :
    joinResponse r s = (s.withLink (startOutbound { s.link with
        responses := s.link.responses ++ [r], requests := s.link.requests.tail })).withReq
      { s.req with hand := if r.fullReset then .fullReset else .free } := by simp [joinResponse, h]

theorem joinResponse_full {r : Response} {s : State} (h : Config.responseCap ≤ s.link.responses.length) :
    joinResponse r s = s.withReq { s.req with hand := .held r } := by
  have : ¬ s.link.responses.length < Config.responseCap := by omega
  simp [joinResponse, this]

theorem answer_head {result : ResultCode} {data : List Byte} {s : State} {f : Frame} {rest : List Frame}
    (h : s.link.requests = f :: rest) :
    answer result data s = joinResponse { kind := f.kind, tag := tagOf f, result, data, fullReset := false } s := by simp [answer, h]

/-- An answer with room in the FIFO, no request being in hand: only the link changes. -/
theorem answer_room {result : ResultCode} {data : List Byte} {s : State} {f : Frame} {rest : List Frame}
    (h : s.link.requests = f :: rest) (hr : hasRoom s) (hf : s.req.hand = .free) :
    answer result data s = s.withLink (answeredLink f rest result data s.link) := by
  have hh : ({ s.req with hand := .free } : ReqProc) = s.req := by rw [← hf]
  rw [answer_head h, joinResponse_room hr]
  simp only [h, List.tail_cons, Bool.false_eq_true, if_false]
  rw [hh]
  rfl

/-! ## Requests (R177 to R179) -/

/-- The request at the head is executed by its own command. -/
theorem request_head {k : ReqKind} {body : Frame → State → State} {s : State} {f : Frame} {rest : List Frame} (h : executes s f rest)
    (hk : f.kind = k.code) : request k body s = body f s := by
  obtain ⟨_, _, h3, h4⟩ := h
  simp [request, h3, h4, hk]

theorem checked_ready {k : ReqKind} {body : List Byte → State → State} {f : Frame} {s : State} (h : s.req.phase = .ready)
    (hl : k.lengthOk f.payload.length = true) : checked k body f s = body f.payload s := by simp [checked, h, hl]

theorem checked_length {k : ReqKind} {body : List Byte → State → State} {f : Frame} {s : State} (h : s.req.phase = .ready)
    (hl : k.lengthOk f.payload.length = false) : checked k body f s = answer .unknown [] s := by simp [checked, h, hl]

theorem checked_early {k : ReqKind} {body : List Byte → State → State} {f : Frame} {s : State} (h : s.req.phase ≠ .ready) :
    checked k body f s = answer .state [] s := by simp [checked, h]

/-! ## Gate commands (R151, R152) -/

theorem issueGate_lists (v : VoiceId) (x : GateCmd) (s : State) :
    (issueGate v x s).vlink.lists = s.vlink.lists.set v (mergeCmd s.vlink.lists[v] x).1 := rfl

theorem issueGate_queue (v : VoiceId) (x : GateCmd) (s : State) :
    (issueGate v x s).vlink.queue = if v ∈ s.vlink.queue then s.vlink.queue else s.vlink.queue ++ [v] := rfl

end Sys2Proof.Machine
end

