-- ==== Sys2Proof/Laws/PerInstr.lean ====
section
/-! SUPPORT. One fact per command about its syntax: the Event Link frame a well-formed command stands for fits a frame, and its kind is a
request's exactly for REQUEST_ARRIVAL (R164, R167, R194). -/

namespace Sys2Proof.Laws

open Sys2Proof Sys2Proof.Machine

/-- The frame on EVIN that a command stands for, where it is one. -/
def frameOf : Instr → Option Frame
  | .idleFrame => some ⟨0x00, []⟩
  | .ignoredFrame f => some f
  | .noteOn c k v => some ⟨0x10, [c, k, v]⟩
  | .noteOff c k => some ⟨0x11, [c, k]⟩
  | .sustain c x => some ⟨0x12, [c, x]⟩
  | .bend c u => some ⟨0x13, c :: bytesOfWord u⟩
  | .controlFine c n x => some ⟨0x14, [c, n, x]⟩
  | .controlCoarse c n x => some ⟨0x15, [c, n, x]⟩
  | .allOff c => some ⟨0x16, [c]⟩
  | .patchSelect c x => some ⟨0x17, [c, x]⟩
  | .requestArrival f => some f
  | _ => none

/-- The command hands a request to the Request Processor. -/
def isArrival : Instr → Bool
  | .requestArrival _ => true
  | _ => false

namespace Framed

/-- A well-formed command's frame fits, and is a request exactly when the command is REQUEST_ARRIVAL. -/
def Statement (i : Instr) : Prop := i.wf = true → ∀ f, frameOf i = some f → f.fits = true ∧ f.isRequest = isArrival i

theorem powerOn : Statement .powerOn := by
  rintro _ f ⟨⟩

theorem resetPin : Statement .resetPin := by
  rintro _ f ⟨⟩

theorem fullResetBegin : Statement .fullResetBegin := by
  rintro _ f ⟨⟩

theorem huntGoodFrame (bytes : List RxByte) : Statement (.huntGoodFrame bytes) := by
  rintro _ f ⟨⟩

theorem frameGapTimeout (bytes : List RxByte) : Statement (.frameGapTimeout bytes) := by
  rintro _ f ⟨⟩

theorem badFrame (bytes : List RxByte) : Statement (.badFrame bytes) := by
  rintro _ f ⟨⟩

theorem idleFrame : Statement .idleFrame := by
  rintro _ f hf
  cases hf
  exact ⟨rfl, rfl⟩

theorem ignoredFrame (f : Frame) : Statement (.ignoredFrame f) := by
  intro h g hg
  simp only [frameOf, Option.some.injEq] at hg
  subst hg
  simp only [Instr.wf, Bool.and_eq_true, Bool.not_eq_true'] at h
  exact ⟨h.1, h.2⟩

theorem noteOn (channel : Byte) (key : Byte) (velocity : Byte) : Statement (.noteOn channel key velocity) := by
  rintro _ f hf
  cases hf
  exact ⟨rfl, rfl⟩

theorem noteOff (channel : Byte) (key : Byte) : Statement (.noteOff channel key) := by
  rintro _ f hf
  cases hf
  exact ⟨rfl, rfl⟩

theorem sustain (channel : Byte) (onOff : Byte) : Statement (.sustain channel onOff) := by
  rintro _ f hf
  cases hf
  exact ⟨rfl, rfl⟩

theorem bend (channel : Byte) (u : Word) : Statement (.bend channel u) := by
  rintro _ f hf
  cases hf
  exact ⟨rfl, rfl⟩

theorem controlFine (channel : Byte) (parameter : Byte) (low : Byte) : Statement (.controlFine channel parameter low) := by
  rintro _ f hf
  cases hf
  exact ⟨rfl, rfl⟩

theorem controlCoarse (channel : Byte) (parameter : Byte) (high : Byte) : Statement (.controlCoarse channel parameter high) := by
  rintro _ f hf
  cases hf
  exact ⟨rfl, rfl⟩

theorem allOff (channel : Byte) : Statement (.allOff channel) := by
  rintro _ f hf
  cases hf
  exact ⟨rfl, rfl⟩

theorem patchSelect (channel : Byte) (slot : Byte) : Statement (.patchSelect channel slot) := by
  rintro _ f hf
  cases hf
  exact ⟨rfl, rfl⟩

theorem requestArrival (f : Frame) : Statement (.requestArrival f) := by
  intro h g hg
  simp only [frameOf, Option.some.injEq] at hg
  subst hg
  simp only [Instr.wf, Bool.and_eq_true] at h
  exact ⟨h.1, h.2⟩

theorem status : Statement .status := by
  rintro _ f ⟨⟩

theorem tableRead : Statement .tableRead := by
  rintro _ f ⟨⟩

theorem tableWrite : Statement .tableWrite := by
  rintro _ f ⟨⟩

theorem tableMerge : Statement .tableMerge := by
  rintro _ f ⟨⟩

theorem patchRecall : Statement .patchRecall := by
  rintro _ f ⟨⟩

theorem patchStore : Statement .patchStore := by
  rintro _ f ⟨⟩

theorem setupSave : Statement .setupSave := by
  rintro _ f ⟨⟩

theorem calSave : Statement .calSave := by
  rintro _ f ⟨⟩

theorem tuneStart : Statement .tuneStart := by
  rintro _ f ⟨⟩

theorem tuneAbort : Statement .tuneAbort := by
  rintro _ f ⟨⟩

theorem barrierApplied : Statement .barrierApplied := by
  rintro _ f ⟨⟩

theorem barrierDelivered : Statement .barrierDelivered := by
  rintro _ f ⟨⟩

theorem deliveryStage : Statement .deliveryStage := by
  rintro _ f ⟨⟩

theorem barrierRelease : Statement .barrierRelease := by
  rintro _ f ⟨⟩

theorem counterSnapshot : Statement .counterSnapshot := by
  rintro _ f ⟨⟩

theorem resetVoices : Statement .resetVoices := by
  rintro _ f ⟨⟩

theorem resetFull : Statement .resetFull := by
  rintro _ f ⟨⟩

theorem responseJoin : Statement .responseJoin := by
  rintro _ f ⟨⟩

theorem outboundFrameEnd : Statement .outboundFrameEnd := by
  rintro _ f ⟨⟩

theorem missedRefill : Statement .missedRefill := by
  rintro _ f ⟨⟩

theorem outboundIdleTimeout : Statement .outboundIdleTimeout := by
  rintro _ f ⟨⟩

theorem silenceAction : Statement .silenceAction := by
  rintro _ f ⟨⟩

theorem glideStep : Statement .glideStep := by
  rintro _ f ⟨⟩

theorem dampEnd (v : VoiceId) : Statement (.dampEnd v) := by
  rintro _ f ⟨⟩

theorem releaseDeadlineExpiry (v : VoiceId) : Statement (.releaseDeadlineExpiry v) := by
  rintro _ f ⟨⟩

theorem scanRound : Statement .scanRound := by
  rintro _ f ⟨⟩

theorem scanSettle : Statement .scanSettle := by
  rintro _ f ⟨⟩

theorem scanSample (sample : Word12) : Statement (.scanSample sample) := by
  rintro _ f ⟨⟩

theorem storeOpStart : Statement .storeOpStart := by
  rintro _ f ⟨⟩

theorem pendingSelectPlaced : Statement .pendingSelectPlaced := by
  rintro _ f ⟨⟩

theorem recallReadEnd : Statement .recallReadEnd := by
  rintro _ f ⟨⟩

theorem nextNoteCommit (p : PartId) : Statement (.nextNoteCommit p) := by
  rintro _ f ⟨⟩

theorem pageTransferDone : Statement .pageTransferDone := by
  rintro _ f ⟨⟩

theorem pageWriteDone : Statement .pageWriteDone := by
  rintro _ f ⟨⟩

theorem pageTimeout : Statement .pageTimeout := by
  rintro _ f ⟨⟩

theorem setupLoad : Statement .setupLoad := by
  rintro _ f ⟨⟩

theorem calLoad : Statement .calLoad := by
  rintro _ f ⟨⟩

theorem tunerTakeVoice : Statement .tunerTakeVoice := by
  rintro _ f ⟨⟩

theorem measurementSettleStart : Statement .measurementSettleStart := by
  rintro _ f ⟨⟩

theorem tuneSettleExpiry : Statement .tuneSettleExpiry := by
  rintro _ f ⟨⟩

theorem tuneEdge (ticks : Nat) : Statement (.tuneEdge ticks) := by
  rintro _ f ⟨⟩

theorem countSaturated : Statement .countSaturated := by
  rintro _ f ⟨⟩

theorem noSignalTimeout : Statement .noSignalTimeout := by
  rintro _ f ⟨⟩

theorem driftPeriodExpiry : Statement .driftPeriodExpiry := by
  rintro _ f ⟨⟩

theorem retuneRunStart : Statement .retuneRunStart := by
  rintro _ f ⟨⟩

theorem voiceLinkOpportunity : Statement .voiceLinkOpportunity := by
  rintro _ f ⟨⟩

theorem voiceLinkFrameSent : Statement .voiceLinkFrameSent := by
  rintro _ f ⟨⟩

theorem resetRelease : Statement .resetRelease := by
  rintro _ f ⟨⟩

end Framed

end Sys2Proof.Laws
end

