-- ==== Sys2Proof/Laws/Walk.lean ====
section
/-! SUPPORT. Each operation is a run of the changes of Laws/Changes.lean; so is each command (`exec_changes`). -/

namespace Sys2Proof.Machine

open Sys2Proof

/-! ## One change after a run of changes -/

theorem Changes.trans {w : Bool} {s t u : State} (h : Changes w s t) (k : Changes w t u) : Changes w s u := by
  induction k with
  | refl => exact h
  | snoc _ c ih => exact .snoc ih c

theorem link_c {w : Bool} {s t : State} {l : Link} (h : Changes w s t) (h1 : l.requests = t.link.requests)
    (h2 : l.responses = t.link.responses) (h3 : l.notices = t.link.notices) : Changes w s (t.withLink l) := .snoc h (.link l h1 h2 h3)
theorem req_c {w : Bool} {s t : State} {x : ReqProc} (h : Changes w s t) : Changes w s (t.withReq x) := .snoc h (.req x)
theorem router_c {w : Bool} {s t : State} {x : Router} (h : Changes w s t)
    (k : w = false → x.zones = t.router.zones ∧ x.parts = t.router.parts) (hp : x.pool = t.router.pool)
    (hl : x.lists = t.router.lists) : Changes w s (t.withRouter x) := .snoc h (.router x k hp hl)
theorem pitch_c {w : Bool} {s t : State} {x : Pitch} (h : Changes w s t) (k : w = false → x.scale = t.pitch.scale) :
    Changes w s (t.withPitch x) := .snoc h (.pitch x k)
theorem panel_c {w : Bool} {s t : State} {x : Panel} (h : Changes w s t)
    (k : w = false → x.scanMap = t.panel.scanMap ∧ x.controls = t.panel.controls) : Changes w s (t.withPanel x) := .snoc h (.panel x k)
theorem params_c {w : Bool} {s t : State} {x : ParamMem} (h : Changes w s t) (k : w = false → x.desc = t.params.desc)
    (hp : x.pickup.length ≤ t.params.pickup.length ∨ x.pickup.length ≤ Config.pickupCap) : Changes w s (t.withParams x) :=
  .snoc h (.params x k hp)
theorem tuner_c {w : Bool} {s t : State} {x : Tuner} (h : Changes w s t)
    (k : w = false → x.target = t.tuner.target ∧ x.cfg = t.tuner.cfg) : Changes w s (t.withTuner x) := .snoc h (.tuner x k)
theorem vlink_c {w : Bool} {s t : State} {k : VLink} (h : Changes w s t) (h1 : k.lists = t.vlink.lists)
    (h2 : k.queue = t.vlink.queue) : Changes w s (t.withVlink k) := .snoc h (.vlink k h1 h2)
theorem store_c {w : Bool} {s t : State} {x : Store} (h : Changes w s t) (k : w = false → x.options = t.store.options)
    (hm : x.mem = t.store.mem) (hf : x.memFitted = t.store.memFitted)
    (hq : x.queue.length ≤ t.store.queue.length ∨ x.queue.length ≤ Config.storeCap) : Changes w s (t.withStore x) :=
  .snoc h (.store x k hm hf hq)
theorem voice_c {w : Bool} {s t : State} {v : VoiceId} {f : VoiceRec → VoiceRec} (h : Changes w s t)
    (k : ∀ r, (f r).state = r.state) : Changes w s (t.modVoice v f) := .snoc h (.voice v f k)

theorem forEach_changes {α : Type} {w : Bool} {s t : State} {f : α → State → State} {xs : List α} (h : Changes w s t)
    (k : ∀ x u, Changes w s u → Changes w s (f x u)) : Changes w s (forEach xs f t) := by
  unfold forEach
  induction xs generalizing t with
  | nil => exact h
  | cons x xs ih => exact ih (k x t h)





theorem State.modEntry_changes {w : Bool} {s t : State} {e : PoolPos} {f : HeldEntry → HeldEntry} (h : Changes w s t)
    (k : ∀ x, (f x).part = x.part) : Changes w s (State.modEntry t e f) := .snoc h (.entry e f k)



theorem State.setSustain_changes {w : Bool} {s t : State} {p : PartId} {b : Bool} (h : Changes w s t) :
    Changes w s (State.setSustain t p b) := router_c h (fun _ => ⟨rfl, rfl⟩) rfl rfl

theorem moveVoice_changes {w : Bool} {s t : State} {v : VoiceId} {st : VoiceState} (h : Changes w s t) :
    Changes w s (moveVoice v st t) := .snoc h (.move v st)

theorem regate_changes {w : Bool} {s t : State} {v : VoiceId} (h : Changes w s t) : Changes w s (regate v t) := .snoc h (.regate v)

theorem bump_changes {w : Bool} {s t : State} {c : Stat} (h : Changes w s t) : Changes w s (bump c t) := link_c h rfl rfl rfl

theorem offerNotice_changes {w : Bool} {s t : State} {n : Notice} (h : Changes w s t) : Changes w s (offerNotice n t) := by
  unfold offerNotice
  split
  · exact .snoc (.snoc h (.place n)) .start
  · exact h

theorem joinResponse_changes {w : Bool} {s t : State} {r : Response} (h : Changes w s t) : Changes w s (joinResponse r t) := by
  unfold joinResponse
  split
  · next hr => exact req_c (.snoc (.snoc h (.join r hr)) .start)
  · exact req_c h

theorem answer_changes {wr : Bool} {s y : State} (result : ResultCode) (data : List Byte) (hy : Changes wr s y) :
    Changes wr s (answer result data y) := by
  unfold answer
  repeat' first
    | with_reducible exact hy | with_reducible assumption | (exact fun _ => rfl) | (exact fun _ => ⟨rfl, rfl⟩)
    | (exact rfl) | (exact Or.inl (Nat.le_refl _)) | (intro _) | with_reducible apply joinResponse_changes | split
    | dsimp only

theorem issueGate_changes {w : Bool} {s t : State} {v : VoiceId} {x : GateCmd} (h : Changes w s t) : Changes w s (issueGate v x t) :=
  .snoc h (.issue v x)

theorem placeTune_changes {w : Bool} {s t : State} {c : TuneCmd} (h : Changes w s t) : Changes w s (placeTune c t) :=
  tuner_c (vlink_c h rfl rfl) (fun _ => ⟨rfl, rfl⟩)

theorem computeFor_changes {wr : Bool} {s y : State} (v : VoiceId) (p : PartId) (key vel : Key) (hy : Changes wr s y) :
    Changes wr s (computeFor v p key vel y) := by
  unfold computeFor
  repeat' first
    | with_reducible exact hy | with_reducible assumption | (exact fun _ => rfl) | (exact fun _ => ⟨rfl, rfl⟩)
    | (exact rfl) | (exact Or.inl (Nat.le_refl _)) | (intro _) | with_reducible apply pitch_c
    | with_reducible apply voice_c | split | dsimp only

theorem computeVoice_changes {wr : Bool} {s y : State} (v : VoiceId) (hy : Changes wr s y) :
    Changes wr s (computeVoice v y) := by
  unfold computeVoice
  repeat' first
    | with_reducible exact hy | with_reducible assumption | (exact fun _ => rfl) | (exact fun _ => ⟨rfl, rfl⟩)
    | (exact rfl) | (exact Or.inl (Nat.le_refl _)) | (intro _) | with_reducible apply computeFor_changes | split
    | dsimp only

theorem computePart_changes {wr : Bool} {s y : State} (p : PartId) (hy : Changes wr s y) :
    Changes wr s (computePart p y) := by
  unfold computePart
  repeat' first
    | with_reducible exact hy | with_reducible assumption | (exact fun _ => rfl) | (exact fun _ => ⟨rfl, rfl⟩)
    | (exact rfl) | (exact Or.inl (Nat.le_refl _)) | (intro _) | with_reducible apply forEach_changes
    | with_reducible apply computeVoice_changes | split | dsimp only

theorem glideVoice_changes {wr : Bool} {s y : State} (v : VoiceId) (hy : Changes wr s y) :
    Changes wr s (glideVoice v y) := by
  unfold glideVoice
  repeat' first
    | with_reducible exact hy | with_reducible assumption | (exact fun _ => rfl) | (exact fun _ => ⟨rfl, rfl⟩)
    | (exact rfl) | (exact Or.inl (Nat.le_refl _)) | (intro _) | with_reducible apply computeVoice_changes
    | with_reducible apply voice_c | split | dsimp only

theorem setSlot_changes {wr : Bool} {s y : State} (v : VoiceId) (k : SlotId) (x : Word) (hy : Changes wr s y) :
    Changes wr s (setSlot v k x y) := by
  unfold setSlot
  repeat' first
    | with_reducible exact hy | with_reducible assumption | (exact fun _ => rfl) | (exact fun _ => ⟨rfl, rfl⟩)
    | (exact rfl) | (exact Or.inl (Nat.le_refl _)) | (intro _) | with_reducible apply pitch_c | split | dsimp only

theorem setRouted_changes {wr : Bool} {s y : State} (v : VoiceId) (p : PartId) (k : SlotId) (hy : Changes wr s y) :
    Changes wr s (setRouted v p k y) := by
  unfold setRouted
  repeat' first
    | with_reducible exact hy | with_reducible assumption | (exact fun _ => rfl) | (exact fun _ => ⟨rfl, rfl⟩)
    | (exact rfl) | (exact Or.inl (Nat.le_refl _)) | (intro _) | with_reducible apply setSlot_changes | split
    | dsimp only

theorem setAllRouted_changes {wr : Bool} {s y : State} (v : VoiceId) (p : PartId) (hy : Changes wr s y) :
    Changes wr s (setAllRouted v p y) := by
  unfold setAllRouted
  repeat' first
    | with_reducible exact hy | with_reducible assumption | (exact fun _ => rfl) | (exact fun _ => ⟨rfl, rfl⟩)
    | (exact rfl) | (exact Or.inl (Nat.le_refl _)) | (intro _) | with_reducible apply forEach_changes
    | with_reducible apply setRouted_changes | split | dsimp only

theorem rerouteSlot_changes {wr : Bool} {s y : State} (k : SlotId) (hy : Changes wr s y) :
    Changes wr s (rerouteSlot k y) := by
  unfold rerouteSlot
  repeat' first
    | with_reducible exact hy | with_reducible assumption | (exact fun _ => rfl) | (exact fun _ => ⟨rfl, rfl⟩)
    | (exact rfl) | (exact Or.inl (Nat.le_refl _)) | (intro _) | with_reducible apply forEach_changes
    | with_reducible apply setRouted_changes | split | dsimp only

theorem followFilter_changes {wr : Bool} {s y : State} (v : VoiceId) (hy : Changes wr s y) :
    Changes wr s (followFilter v y) := by
  unfold followFilter
  repeat' first
    | with_reducible exact hy | with_reducible assumption | (exact fun _ => rfl) | (exact fun _ => ⟨rfl, rfl⟩)
    | (exact rfl) | (exact Or.inl (Nat.le_refl _)) | (intro _) | with_reducible apply pitch_c | split | dsimp only

theorem removePickup_changes {w : Bool} {s t : State} {c : ControlId} (h : Changes w s t) : Changes w s (removePickup c t) :=
  params_c h (fun _ => rfl) (.inl (List.length_filter_le _ _))

theorem putPickup_changes {w : Bool} {s t : State} {e : PickupEntry} (h : Changes w s t) : Changes w s (putPickup e t) := by
  unfold putPickup
  split
  · exact params_c h (fun _ => rfl) (.inl (by simp))
  · split
    · next hl => exact params_c h (fun _ => rfl) (.inr (by simp; omega))
    · exact bump_changes h

theorem evaluateAgainst_changes {wr : Bool} {s y : State} (c : ControlId) (p : PartId) (n : ParamId) (scaled tol : Int) (target : Word12)
    (hy : Changes wr s y) :
    Changes wr s (evaluateAgainst c p n scaled tol target y) := by
  unfold evaluateAgainst
  repeat' first
    | with_reducible exact hy | with_reducible assumption | (exact fun _ => rfl) | (exact fun _ => ⟨rfl, rfl⟩)
    | (exact rfl) | (exact Or.inl (Nat.le_refl _)) | (intro _) | with_reducible apply removePickup_changes
    | with_reducible apply putPickup_changes | split | dsimp only

theorem evaluate_changes {wr : Bool} {s y : State} (c : ControlId) (hy : Changes wr s y) :
    Changes wr s (evaluate c y) := by
  unfold evaluate
  repeat' first
    | with_reducible exact hy | with_reducible assumption | (exact fun _ => rfl) | (exact fun _ => ⟨rfl, rfl⟩)
    | (exact rfl) | (exact Or.inl (Nat.le_refl _)) | (intro _) | with_reducible apply evaluateAgainst_changes | split
    | dsimp only

theorem countEdit_changes {wr : Bool} {s y : State} (p : PartId) (hy : Changes wr s y) :
    Changes wr s (countEdit p y) := by
  unfold countEdit
  repeat' first
    | with_reducible exact hy | with_reducible assumption | (exact fun _ => rfl) | (exact fun _ => ⟨rfl, rfl⟩)
    | (exact rfl) | (exact Or.inl (Nat.le_refl _)) | (intro _) | with_reducible apply params_c | split | dsimp only

theorem storeValue_changes {wr : Bool} {s y : State} (p : PartId) (n : ParamId) (v : Nat) (hy : Changes wr s y) :
    Changes wr s (storeValue p n v y) := by
  unfold storeValue
  repeat' first
    | with_reducible exact hy | with_reducible assumption | (exact fun _ => rfl) | (exact fun _ => ⟨rfl, rfl⟩)
    | (exact rfl) | (exact Or.inl (Nat.le_refl _)) | (intro _) | with_reducible apply params_c | split | dsimp only

theorem handRouted_changes {wr : Bool} {s y : State} (p : PartId) (n : ParamId) (hy : Changes wr s y) :
    Changes wr s (handRouted p n y) := by
  unfold handRouted
  repeat' first
    | with_reducible exact hy | with_reducible assumption | (exact fun _ => rfl) | (exact fun _ => ⟨rfl, rfl⟩)
    | (exact rfl) | (exact Or.inl (Nat.le_refl _)) | (intro _) | with_reducible apply forEach_changes
    | with_reducible apply setRouted_changes | split | dsimp only

theorem handOn_changes {wr : Bool} {s y : State} (p : PartId) (n : ParamId) (hy : Changes wr s y) :
    Changes wr s (handOn p n y) := by
  unfold handOn
  repeat' first
    | with_reducible exact hy | with_reducible assumption | (exact fun _ => rfl) | (exact fun _ => ⟨rfl, rfl⟩)
    | (exact rfl) | (exact Or.inl (Nat.le_refl _)) | (intro _) | with_reducible apply computePart_changes
    | with_reducible apply handRouted_changes | split | dsimp only

theorem applyWrite_changes {wr : Bool} {s y : State} (p : PartId) (n : ParamId) (v : Nat) (hy : Changes wr s y) :
    Changes wr s (applyWrite p n v y) := by
  unfold applyWrite
  repeat' first
    | with_reducible exact hy | with_reducible assumption | (exact fun _ => rfl) | (exact fun _ => ⟨rfl, rfl⟩)
    | (exact rfl) | (exact Or.inl (Nat.le_refl _)) | (intro _) | with_reducible apply countEdit_changes
    | with_reducible apply storeValue_changes | with_reducible apply handOn_changes | split | dsimp only

theorem evaluateBound_changes {wr : Bool} {s y : State} (p : PartId) (n : ParamId) (hy : Changes wr s y) :
    Changes wr s (evaluateBound p n y) := by
  unfold evaluateBound
  repeat' first
    | with_reducible exact hy | with_reducible assumption | (exact fun _ => rfl) | (exact fun _ => ⟨rfl, rfl⟩)
    | (exact rfl) | (exact Or.inl (Nat.le_refl _)) | (intro _) | with_reducible apply evaluate_changes | split
    | dsimp only

theorem writeParam_changes {wr : Bool} {s y : State} (p : PartId) (n : ParamId) (v : Nat) (hy : Changes wr s y) :
    Changes wr s (writeParam p n v y) := by
  unfold writeParam
  repeat' first
    | with_reducible exact hy | with_reducible assumption | (exact fun _ => rfl) | (exact fun _ => ⟨rfl, rfl⟩)
    | (exact rfl) | (exact Or.inl (Nat.le_refl _)) | (intro _) | with_reducible apply applyWrite_changes
    | with_reducible apply evaluateBound_changes | split | dsimp only

theorem panelChange_changes {w : Bool} {s t : State} {c : ControlId} {p : PartId} {n : ParamId} {r : Word12} (h : Changes w s t) :
    Changes w s (panelChange c p n r t).1 := by
  unfold panelChange
  dsimp only
  split
  · exact applyWrite_changes _ _ _ h
  · split
    · exact applyWrite_changes _ _ _ (removePickup_changes h)
    · exact h

theorem writeName_changes {wr : Bool} {s y : State} (p : PartId) (name : Vector Byte 12) (hy : Changes wr s y) :
    Changes wr s (writeName p name y) := by
  unfold writeName
  repeat' first
    | with_reducible exact hy | with_reducible assumption | (exact fun _ => rfl) | (exact fun _ => ⟨rfl, rfl⟩)
    | (exact rfl) | (exact Or.inl (Nat.le_refl _)) | (intro _) | with_reducible apply countEdit_changes
    | with_reducible apply params_c | split | dsimp only

theorem storeRouting_changes {s t : State} {n : ParamId} {k : Option SlotId} (h : Changes true s t) :
    Changes true s (storeRouting n k t) := params_c h nofun (.inl (Nat.le_refl _))

theorem rerouteSome_changes {wr : Bool} {s y : State} (k : Option SlotId) (hy : Changes wr s y) :
    Changes wr s (rerouteSome k y) := by
  unfold rerouteSome
  repeat' first
    | with_reducible exact hy | with_reducible assumption | (exact fun _ => rfl) | (exact fun _ => ⟨rfl, rfl⟩)
    | (exact rfl) | (exact Or.inl (Nat.le_refl _)) | (intro _) | with_reducible apply rerouteSlot_changes | split
    | dsimp only

theorem changeRouting_changes {s y : State} (n : ParamId) (k : Option SlotId) (hy : Changes true s y) :
    Changes true s (changeRouting n k y) := by
  unfold changeRouting
  repeat' first
    | with_reducible exact hy | with_reducible assumption | (exact fun _ => rfl) | (exact fun _ => ⟨rfl, rfl⟩)
    | (exact rfl) | (exact Or.inl (Nat.le_refl _)) | (intro _) | with_reducible apply storeRouting_changes
    | with_reducible apply rerouteSome_changes | split | dsimp only

theorem evaluateParam_changes {wr : Bool} {s y : State} (n : ParamId) (done : List PartId) (hy : Changes wr s y) :
    Changes wr s (evaluateParam n done y) := by
  unfold evaluateParam
  repeat' first
    | with_reducible exact hy | with_reducible assumption | (exact fun _ => rfl) | (exact fun _ => ⟨rfl, rfl⟩)
    | (exact rfl) | (exact Or.inl (Nat.le_refl _)) | (intro _) | with_reducible apply forEach_changes
    | with_reducible apply evaluate_changes | split | dsimp only

theorem changeRange_changes {s t : State} (n : ParamId) (lo hi : Word12) (h : Changes true s t) :
    Changes true s (changeRange n lo hi t) := by
  unfold changeRange
  split
  · exact h
  · exact evaluateParam_changes _ _ (forEach_changes (params_c h nofun (.inl (Nat.le_refl _)))
      (fun p u hu => writeParam_changes _ _ _ hu))

theorem writeDescriptor_changes {s y : State} (n : ParamId) (d : Descriptor) (hy : Changes true s y) :
    Changes true s (writeDescriptor n d y) := by
  unfold writeDescriptor
  repeat' first
    | with_reducible exact hy | with_reducible assumption | (exact fun _ => rfl) | (exact fun _ => ⟨rfl, rfl⟩)
    | (exact rfl) | (exact Or.inl (Nat.le_refl _)) | (intro _) | with_reducible apply changeRouting_changes
    | with_reducible apply changeRange_changes | split | dsimp only

theorem commitPatch_changes {wr : Bool} {s y : State} (p : PartId) (r : Staged) (hy : Changes wr s y) :
    Changes wr s (commitPatch p r y) := by
  unfold commitPatch
  repeat' first
    | with_reducible exact hy | with_reducible assumption | (exact fun _ => rfl) | (exact fun _ => ⟨rfl, rfl⟩)
    | (exact rfl) | (exact Or.inl (Nat.le_refl _)) | (intro _) | with_reducible apply params_c | split | dsimp only

theorem evaluatePart_changes {wr : Bool} {s y : State} (p : PartId) (hy : Changes wr s y) :
    Changes wr s (evaluatePart p y) := by
  unfold evaluatePart
  repeat' first
    | with_reducible exact hy | with_reducible assumption | (exact fun _ => rfl) | (exact fun _ => ⟨rfl, rfl⟩)
    | (exact rfl) | (exact Or.inl (Nat.le_refl _)) | (intro _) | with_reducible apply forEach_changes
    | with_reducible apply evaluate_changes | split | dsimp only

theorem recallCommit_changes {wr : Bool} {s y : State} (p : PartId) (r : Staged) (hy : Changes wr s y) :
    Changes wr s (recallCommit p r y) := by
  unfold recallCommit
  repeat' first
    | with_reducible exact hy | with_reducible assumption | (exact fun _ => rfl) | (exact fun _ => ⟨rfl, rfl⟩)
    | (exact rfl) | (exact Or.inl (Nat.le_refl _)) | (intro _) | with_reducible apply forEach_changes
    | with_reducible apply computeVoice_changes | with_reducible apply setAllRouted_changes
    | with_reducible apply commitPatch_changes | with_reducible apply evaluatePart_changes | split | dsimp only

theorem reportVoiced_changes {wr : Bool} {s y : State} (e : PoolPos) (set : VoiceSet) (hy : Changes wr s y) :
    Changes wr s (reportVoiced e set y) := by
  unfold reportVoiced
  repeat' first
    | with_reducible exact hy | with_reducible assumption | (exact fun _ => rfl) | (exact fun _ => ⟨rfl, rfl⟩)
    | (exact rfl) | (exact Or.inl (Nat.le_refl _)) | (intro _) | with_reducible apply State.modEntry_changes | split
    | dsimp only

theorem reportWaiting_changes {wr : Bool} {s y : State} (e : PoolPos) (hy : Changes wr s y) :
    Changes wr s (reportWaiting e y) := by
  unfold reportWaiting
  repeat' first
    | with_reducible exact hy | with_reducible assumption | (exact fun _ => rfl) | (exact fun _ => ⟨rfl, rfl⟩)
    | (exact rfl) | (exact Or.inl (Nat.le_refl _)) | (intro _) | with_reducible apply State.modEntry_changes | split
    | dsimp only

theorem removeEntry_changes {w : Bool} {s t : State} (e : PoolPos) (h : Changes w s t) : Changes w s (removeEntry e t) :=
  .snoc h (.remove e)

theorem numberVoices_changes {w : Bool} {s t : State} (size i : Nat) (vs : List VoiceId) (h : Changes w s t) :
    Changes w s (numberVoices size i vs t) := by
  induction vs generalizing i t with
  | nil => exact h
  | cons v vs ih => exact ih _ (pitch_c (voice_c h (fun _ => rfl)) (fun _ => rfl))

theorem renumber_changes {wr : Bool} {s y : State} (e : PoolPos) (hy : Changes wr s y) :
    Changes wr s (renumber e y) := by
  unfold renumber
  repeat' first
    | with_reducible exact hy | with_reducible assumption | (exact fun _ => rfl) | (exact fun _ => ⟨rfl, rfl⟩)
    | (exact rfl) | (exact Or.inl (Nat.le_refl _)) | (intro _) | with_reducible apply forEach_changes
    | with_reducible apply computeVoice_changes | with_reducible apply numberVoices_changes | split | dsimp only

theorem holdFor_changes {wr : Bool} {s y : State} (v : VoiceId) (p : PartId) (e : PoolPos) (hy : Changes wr s y) :
    Changes wr s (holdFor v p e y) := by
  unfold holdFor
  repeat' first
    | with_reducible exact hy | with_reducible assumption | (exact fun _ => rfl) | (exact fun _ => ⟨rfl, rfl⟩)
    | (exact rfl) | (exact Or.inl (Nat.le_refl _)) | (intro _) | with_reducible apply moveVoice_changes
    | with_reducible apply voice_c | split | dsimp only

theorem startPoly_changes {wr : Bool} {s y : State} (v : VoiceId) (p : PartId) (e : PoolPos) (hy : Changes wr s y) :
    Changes wr s (startPoly v p e y) := by
  unfold startPoly
  repeat' first
    | with_reducible exact hy | with_reducible assumption | (exact fun _ => rfl) | (exact fun _ => ⟨rfl, rfl⟩)
    | (exact rfl) | (exact Or.inl (Nat.le_refl _)) | (intro _) | with_reducible apply issueGate_changes
    | with_reducible apply computeVoice_changes | with_reducible apply setAllRouted_changes
    | with_reducible apply reportVoiced_changes | with_reducible apply holdFor_changes | with_reducible apply voice_c
    | split | dsimp only

theorem joinGroup_changes {wr : Bool} {s y : State} (v : VoiceId) (p : PartId) (e : PoolPos) (hy : Changes wr s y) :
    Changes wr s (joinGroup v p e y) := by
  unfold joinGroup
  repeat' first
    | with_reducible exact hy | with_reducible assumption | (exact fun _ => rfl) | (exact fun _ => ⟨rfl, rfl⟩)
    | (exact rfl) | (exact Or.inl (Nat.le_refl _)) | (intro _) | with_reducible apply issueGate_changes
    | with_reducible apply setAllRouted_changes | with_reducible apply reportVoiced_changes
    | with_reducible apply renumber_changes | with_reducible apply holdFor_changes | split | dsimp only

theorem startFor_changes {wr : Bool} {s y : State} (v : VoiceId) (p : PartId) (e : PoolPos) (hy : Changes wr s y) :
    Changes wr s (startFor v p e y) := by
  unfold startFor
  repeat' first
    | with_reducible exact hy | with_reducible assumption | (exact fun _ => rfl) | (exact fun _ => ⟨rfl, rfl⟩)
    | (exact rfl) | (exact Or.inl (Nat.le_refl _)) | (intro _) | with_reducible apply startPoly_changes
    | with_reducible apply joinGroup_changes | split | dsimp only

theorem takeKey_changes {wr : Bool} {s y : State} (e : PoolPos) (v : VoiceId) (hy : Changes wr s y) :
    Changes wr s (takeKey e v y) := by
  unfold takeKey
  repeat' first
    | with_reducible exact hy | with_reducible assumption | (exact fun _ => rfl) | (exact fun _ => ⟨rfl, rfl⟩)
    | (exact rfl) | (exact Or.inl (Nat.le_refl _)) | (intro _) | with_reducible apply computeVoice_changes
    | with_reducible apply voice_c | split | dsimp only

theorem gateAgain_changes {wr : Bool} {s y : State} (v : VoiceId) (hy : Changes wr s y) :
    Changes wr s (gateAgain v y) := by
  unfold gateAgain
  repeat' first
    | with_reducible exact hy | with_reducible assumption | (exact fun _ => rfl) | (exact fun _ => ⟨rfl, rfl⟩)
    | (exact rfl) | (exact Or.inl (Nat.le_refl _)) | (intro _) | with_reducible apply regate_changes
    | with_reducible apply issueGate_changes | split | dsimp only

theorem dampVoice_changes {wr : Bool} {s y : State} (v : VoiceId) (pend : Pending) (hy : Changes wr s y) :
    Changes wr s (dampVoice v pend y) := by
  unfold dampVoice
  repeat' first
    | with_reducible exact hy | with_reducible assumption | (exact fun _ => rfl) | (exact fun _ => ⟨rfl, rfl⟩)
    | (exact rfl) | (exact Or.inl (Nat.le_refl _)) | (intro _) | with_reducible apply moveVoice_changes
    | with_reducible apply issueGate_changes | with_reducible apply voice_c | split | dsimp only

theorem cancelPending_changes {wr : Bool} {s y : State} (v : VoiceId) (hy : Changes wr s y) :
    Changes wr s (cancelPending v y) := by
  unfold cancelPending
  repeat' first
    | with_reducible exact hy | with_reducible assumption | (exact fun _ => rfl) | (exact fun _ => ⟨rfl, rfl⟩)
    | (exact rfl) | (exact Or.inl (Nat.le_refl _)) | (intro _) | with_reducible apply voice_c | split | dsimp only

theorem cancelToward_changes {wr : Bool} {s y : State} (p : PartId) (e : PoolPos) (hy : Changes wr s y) :
    Changes wr s (cancelToward p e y) := by
  unfold cancelToward
  repeat' first
    | with_reducible exact hy | with_reducible assumption | (exact fun _ => rfl) | (exact fun _ => ⟨rfl, rfl⟩)
    | (exact rfl) | (exact Or.inl (Nat.le_refl _)) | (intro _) | with_reducible apply forEach_changes
    | with_reducible apply cancelPending_changes | split | dsimp only

theorem cancelPart_changes {wr : Bool} {s y : State} (p : PartId) (hy : Changes wr s y) :
    Changes wr s (cancelPart p y) := by
  unfold cancelPart
  repeat' first
    | with_reducible exact hy | with_reducible assumption | (exact fun _ => rfl) | (exact fun _ => ⟨rfl, rfl⟩)
    | (exact rfl) | (exact Or.inl (Nat.le_refl _)) | (intro _) | with_reducible apply forEach_changes
    | with_reducible apply cancelPending_changes | split | dsimp only

theorem loseEntry_changes {wr : Bool} {s y : State} (keep : Bool) (e : PoolPos) (hy : Changes wr s y) :
    Changes wr s (loseEntry keep e y) := by
  unfold loseEntry
  repeat' first
    | with_reducible exact hy | with_reducible assumption | (exact fun _ => rfl) | (exact fun _ => ⟨rfl, rfl⟩)
    | (exact rfl) | (exact Or.inl (Nat.le_refl _)) | (intro _) | with_reducible apply reportWaiting_changes
    | with_reducible apply removeEntry_changes | split | dsimp only

theorem loseVoice_changes {wr : Bool} {s y : State} (v : VoiceId) (q : PartId) (x : PoolPos) (keep : Bool)
    (hy : Changes wr s y) :
    Changes wr s (loseVoice v q x keep y) := by
  unfold loseVoice
  repeat' first
    | with_reducible exact hy | with_reducible assumption | (exact fun _ => rfl) | (exact fun _ => ⟨rfl, rfl⟩)
    | (exact rfl) | (exact Or.inl (Nat.le_refl _)) | (intro _) | with_reducible apply reportVoiced_changes
    | with_reducible apply reportWaiting_changes | with_reducible apply renumber_changes
    | with_reducible apply loseEntry_changes | split | dsimp only

theorem takeVoice_changes {wr : Bool} {s y : State} (v : VoiceId) (pend : Pending) (keepIf : PartCfg → Bool)
    (hy : Changes wr s y) :
    Changes wr s (takeVoice v pend keepIf y) := by
  unfold takeVoice
  repeat' first
    | with_reducible exact hy | with_reducible assumption | (exact fun _ => rfl) | (exact fun _ => ⟨rfl, rfl⟩)
    | (exact rfl) | (exact Or.inl (Nat.le_refl _)) | (intro _) | with_reducible apply dampVoice_changes
    | with_reducible apply loseVoice_changes | split | dsimp only

theorem reuseVoice_changes {wr : Bool} {s y : State} (v : VoiceId) (p : PartId) (e : PoolPos) (hy : Changes wr s y) :
    Changes wr s (reuseVoice v p e y) := by
  unfold reuseVoice
  repeat' first
    | with_reducible exact hy | with_reducible assumption | (exact fun _ => rfl) | (exact fun _ => ⟨rfl, rfl⟩)
    | (exact rfl) | (exact Or.inl (Nat.le_refl _)) | (intro _) | with_reducible apply issueGate_changes
    | with_reducible apply computeVoice_changes | with_reducible apply reportVoiced_changes
    | with_reducible apply holdFor_changes | split | dsimp only

theorem stealVoice_changes {wr : Bool} {s y : State} (v : VoiceId) (p : PartId) (e : PoolPos) (hy : Changes wr s y) :
    Changes wr s (stealVoice v p e y) := by
  unfold stealVoice
  repeat' first
    | with_reducible exact hy | with_reducible assumption | (exact fun _ => rfl) | (exact fun _ => ⟨rfl, rfl⟩)
    | (exact rfl) | (exact Or.inl (Nat.le_refl _)) | (intro _) | with_reducible apply bump_changes
    | with_reducible apply takeVoice_changes | with_reducible apply revive_changes | split | dsimp only

theorem acquireOne_changes {w : Bool} {s t u : State} {p : PartId} {e : PoolPos} (h : Changes w s t)
    (k : acquireOne p e t = some u) : Changes w s u := by
  unfold acquireOne at k
  split at k
  · cases k; exact startFor_changes _ _ _ h
  · split at k
    · cases k; exact dampVoice_changes _ _ h
    · split at k
      · cases k; exact stealVoice_changes _ _ _ h
      · cases k

theorem dropNote_changes {wr : Bool} {s y : State} (p : PartId) (hy : Changes wr s y) :
    Changes wr s (dropNote p y) := by
  unfold dropNote
  repeat' first
    | with_reducible exact hy | with_reducible assumption | (exact fun _ => rfl) | (exact fun _ => ⟨rfl, rfl⟩)
    | (exact rfl) | (exact Or.inl (Nat.le_refl _)) | (intro _) | with_reducible apply bump_changes
    | with_reducible apply offerNotice_changes | split | dsimp only

theorem polyAllocate_changes {w : Bool} {s t : State} (p : PartId) (e : PoolPos) (key : Key) (h : Changes w s t) :
    Changes w s (polyAllocate p e key t) := by
  unfold polyAllocate
  split
  · exact reuseVoice_changes _ _ _ h
  · split
    · next k => exact acquireOne_changes h k
    · split
      · exact h
      · exact dropNote_changes _ (removeEntry_changes _ h)

theorem releaseVoice_changes {wr : Bool} {s y : State} (p : PartId) (v : VoiceId) (hy : Changes wr s y) :
    Changes wr s (releaseVoice p v y) := by
  unfold releaseVoice
  repeat' first
    | with_reducible exact hy | with_reducible assumption | (exact fun _ => rfl) | (exact fun _ => ⟨rfl, rfl⟩)
    | (exact rfl) | (exact Or.inl (Nat.le_refl _)) | (intro _) | with_reducible apply moveVoice_changes
    | with_reducible apply issueGate_changes | with_reducible apply voice_c | split | dsimp only

theorem keyUp_changes {wr : Bool} {s y : State} (p : PartId) (v : VoiceId) (hy : Changes wr s y) :
    Changes wr s (keyUp p v y) := by
  unfold keyUp
  repeat' first
    | with_reducible exact hy | with_reducible assumption | (exact fun _ => rfl) | (exact fun _ => ⟨rfl, rfl⟩)
    | (exact rfl) | (exact Or.inl (Nat.le_refl _)) | (intro _) | with_reducible apply moveVoice_changes
    | with_reducible apply releaseVoice_changes | split | dsimp only

theorem releaseOrTransfer_changes {wr : Bool} {s y : State} (p : PartId) (v : VoiceId) (hy : Changes wr s y) :
    Changes wr s (releaseOrTransfer p v y) := by
  unfold releaseOrTransfer
  repeat' first
    | with_reducible exact hy | with_reducible assumption | (exact fun _ => rfl) | (exact fun _ => ⟨rfl, rfl⟩)
    | (exact rfl) | (exact Or.inl (Nat.le_refl _)) | (intro _) | with_reducible apply bump_changes
    | with_reducible apply setAllRouted_changes | with_reducible apply reportVoiced_changes
    | with_reducible apply takeKey_changes | with_reducible apply gateAgain_changes
    | with_reducible apply keyUp_changes | with_reducible apply revive_changes | split | dsimp only

theorem releaseGated_changes {wr : Bool} {s y : State} (p : PartId) (sel : VoiceState → Bool) (hy : Changes wr s y) :
    Changes wr s (releaseGated p sel y) := by
  unfold releaseGated
  repeat' first
    | with_reducible exact hy | with_reducible assumption | (exact fun _ => rfl) | (exact fun _ => ⟨rfl, rfl⟩)
    | (exact rfl) | (exact Or.inl (Nat.le_refl _)) | (intro _) | with_reducible apply forEach_changes
    | with_reducible apply releaseVoice_changes | split | dsimp only

theorem lastKeyUp_changes {wr : Bool} {s y : State} (p : PartId) (e : PoolPos) (group : VoiceSet)
    (hy : Changes wr s y) :
    Changes wr s (lastKeyUp p e group y) := by
  unfold lastKeyUp
  repeat' first
    | with_reducible exact hy | with_reducible assumption | (exact fun _ => rfl) | (exact fun _ => ⟨rfl, rfl⟩)
    | (exact rfl) | (exact Or.inl (Nat.le_refl _)) | (intro _) | with_reducible apply forEach_changes
    | with_reducible apply cancelToward_changes | with_reducible apply keyUp_changes | split | dsimp only

theorem acquireGroup_changes {w : Bool} {s t : State} (p : PartId) (e : PoolPos) (wanted n : Nat) (h : Changes w s t) :
    Changes w s (acquireGroup p e wanted n t) := by
  induction n generalizing t with
  | zero => exact h
  | succ n ih =>
    unfold acquireGroup
    split
    · exact h
    · split
      · next k => exact ih (acquireOne_changes h k)
      · exact h

theorem firstKey_changes {wr : Bool} {s y : State} (p : PartId) (e : PoolPos) (hy : Changes wr s y) :
    Changes wr s (firstKey p e y) := by
  unfold firstKey
  repeat' first
    | with_reducible exact hy | with_reducible assumption | (exact fun _ => rfl) | (exact fun _ => ⟨rfl, rfl⟩)
    | (exact rfl) | (exact Or.inl (Nat.le_refl _)) | (intro _) | with_reducible apply forEach_changes
    | with_reducible apply joinGroup_changes | with_reducible apply acquireGroup_changes | split | dsimp only

theorem movePending_changes {wr : Bool} {s y : State} (p : PartId) (old new : PoolPos) (hy : Changes wr s y) :
    Changes wr s (movePending p old new y) := by
  unfold movePending
  repeat' first
    | with_reducible exact hy | with_reducible assumption | (exact fun _ => rfl) | (exact fun _ => ⟨rfl, rfl⟩)
    | (exact rfl) | (exact Or.inl (Nat.le_refl _)) | (intro _) | with_reducible apply forEach_changes
    | with_reducible apply voice_c | split | dsimp only

theorem legatoGate_changes {wr : Bool} {s y : State} (p : PartId) (vs : List VoiceId) (hy : Changes wr s y) :
    Changes wr s (legatoGate p vs y) := by
  unfold legatoGate
  repeat' first
    | with_reducible exact hy | with_reducible assumption | (exact fun _ => rfl) | (exact fun _ => ⟨rfl, rfl⟩)
    | (exact rfl) | (exact Or.inl (Nat.le_refl _)) | (intro _) | with_reducible apply forEach_changes
    | with_reducible apply gateAgain_changes | split | dsimp only

theorem reportChange_changes {wr : Bool} {s y : State} (old new : PoolPos) (group : VoiceSet) (hy : Changes wr s y) :
    Changes wr s (reportChange old new group y) := by
  unfold reportChange
  repeat' first
    | with_reducible exact hy | with_reducible assumption | (exact fun _ => rfl) | (exact fun _ => ⟨rfl, rfl⟩)
    | (exact rfl) | (exact Or.inl (Nat.le_refl _)) | (intro _) | with_reducible apply reportVoiced_changes
    | with_reducible apply reportWaiting_changes | split | dsimp only

theorem soundingChange_changes {wr : Bool} {s y : State} (p : PartId) (old new : PoolPos) (group : VoiceSet)
    (hy : Changes wr s y) :
    Changes wr s (soundingChange p old new group y) := by
  unfold soundingChange
  repeat' first
    | with_reducible exact hy | with_reducible assumption | (exact fun _ => rfl) | (exact fun _ => ⟨rfl, rfl⟩)
    | (exact rfl) | (exact Or.inl (Nat.le_refl _)) | (intro _) | with_reducible apply forEach_changes
    | with_reducible apply takeKey_changes | with_reducible apply movePending_changes
    | with_reducible apply legatoGate_changes | with_reducible apply reportChange_changes | split | dsimp only

theorem groupRetrigger_changes {wr : Bool} {s y : State} (e : PoolPos) (hy : Changes wr s y) :
    Changes wr s (groupRetrigger e y) := by
  unfold groupRetrigger
  repeat' first
    | with_reducible exact hy | with_reducible assumption | (exact fun _ => rfl) | (exact fun _ => ⟨rfl, rfl⟩)
    | (exact rfl) | (exact Or.inl (Nat.le_refl _)) | (intro _) | with_reducible apply forEach_changes
    | with_reducible apply takeKey_changes | with_reducible apply gateAgain_changes | split | dsimp only

theorem revive_changes {wr : Bool} {s y : State} (v : VoiceId) (hy : Changes wr s y) :
    Changes wr s (revive v y) := by
  unfold revive
  repeat' first
    | with_reducible exact hy | with_reducible assumption | (exact fun _ => rfl) | (exact fun _ => ⟨rfl, rfl⟩)
    | (exact rfl) | (exact Or.inl (Nat.le_refl _)) | (intro _) | with_reducible apply bump_changes
    | with_reducible apply startFor_changes | split | dsimp only

theorem enterTuning_changes {wr : Bool} {s y : State} (v : VoiceId) (hy : Changes wr s y) :
    Changes wr s (enterTuning v y) := by
  unfold enterTuning
  repeat' first
    | with_reducible exact hy | with_reducible assumption | (exact fun _ => rfl) | (exact fun _ => ⟨rfl, rfl⟩)
    | (exact rfl) | (exact Or.inl (Nat.le_refl _)) | (intro _) | with_reducible apply moveVoice_changes
    | with_reducible apply voice_c | split | dsimp only

theorem setBenchReason_changes {wr : Bool} {s y : State} (v : VoiceId) (hy : Changes wr s y) :
    Changes wr s (setBenchReason v y) := by
  unfold setBenchReason
  repeat' first
    | with_reducible exact hy | with_reducible assumption | (exact fun _ => rfl) | (exact fun _ => ⟨rfl, rfl⟩)
    | (exact rfl) | (exact Or.inl (Nat.le_refl _)) | (intro _) | with_reducible apply voice_c | split | dsimp only

theorem enterBenched_changes {wr : Bool} {s y : State} (v : VoiceId) (hy : Changes wr s y) :
    Changes wr s (enterBenched v y) := by
  unfold enterBenched
  repeat' first
    | with_reducible exact hy | with_reducible assumption | (exact fun _ => rfl) | (exact fun _ => ⟨rfl, rfl⟩)
    | (exact rfl) | (exact Or.inl (Nat.le_refl _)) | (intro _) | with_reducible apply moveVoice_changes
    | with_reducible apply setBenchReason_changes | with_reducible apply voice_c | split | dsimp only

theorem enterIdle_changes {wr : Bool} {s y : State} (v : VoiceId) (hy : Changes wr s y) :
    Changes wr s (enterIdle v y) := by
  unfold enterIdle
  repeat' first
    | with_reducible exact hy | with_reducible assumption | (exact fun _ => rfl) | (exact fun _ => ⟨rfl, rfl⟩)
    | (exact rfl) | (exact Or.inl (Nat.le_refl _)) | (intro _) | with_reducible apply moveVoice_changes
    | with_reducible apply voice_c | split | dsimp only

theorem benchNotice_changes {wr : Bool} {s y : State} (v : VoiceId) (benched : Bool) (hy : Changes wr s y) :
    Changes wr s (benchNotice v benched y) := by
  unfold benchNotice
  repeat' first
    | with_reducible exact hy | with_reducible assumption | (exact fun _ => rfl) | (exact fun _ => ⟨rfl, rfl⟩)
    | (exact rfl) | (exact Or.inl (Nat.le_refl _)) | (intro _) | with_reducible apply offerNotice_changes
    | with_reducible apply voice_c | split | dsimp only

theorem notifyBench_changes {wr : Bool} {s y : State} (v : VoiceId) (benched : Bool) (hy : Changes wr s y) :
    Changes wr s (notifyBench v benched y) := by
  unfold notifyBench
  repeat' first
    | with_reducible exact hy | with_reducible assumption | (exact fun _ => rfl) | (exact fun _ => ⟨rfl, rfl⟩)
    | (exact rfl) | (exact Or.inl (Nat.le_refl _)) | (intro _) | with_reducible apply benchNotice_changes | split
    | dsimp only

theorem claimOffered_changes {wr : Bool} {s y : State} (v : VoiceId) (hy : Changes wr s y) :
    Changes wr s (claimOffered v y) := by
  unfold claimOffered
  repeat' first
    | with_reducible exact hy | with_reducible assumption | (exact fun _ => rfl) | (exact fun _ => ⟨rfl, rfl⟩)
    | (exact rfl) | (exact Or.inl (Nat.le_refl _)) | (intro _) | with_reducible apply enterTuning_changes
    | with_reducible apply tuner_c | split | dsimp only

theorem offerIdle_changes {wr : Bool} {s y : State} (v : VoiceId) (hy : Changes wr s y) :
    Changes wr s (offerIdle v y) := by
  unfold offerIdle
  repeat' first
    | with_reducible exact hy | with_reducible assumption | (exact fun _ => rfl) | (exact fun _ => ⟨rfl, rfl⟩)
    | (exact rfl) | (exact Or.inl (Nat.le_refl _)) | (intro _) | with_reducible apply revive_changes
    | with_reducible apply claimOffered_changes | split | dsimp only

theorem offerBenched_changes {wr : Bool} {s y : State} (v : VoiceId) (hy : Changes wr s y) :
    Changes wr s (offerBenched v y) := by
  unfold offerBenched
  repeat' first
    | with_reducible exact hy | with_reducible assumption | (exact fun _ => rfl) | (exact fun _ => ⟨rfl, rfl⟩)
    | (exact rfl) | (exact Or.inl (Nat.le_refl _)) | (intro _) | with_reducible apply claimOffered_changes | split
    | dsimp only

theorem settleVoice_changes {wr : Bool} {s y : State} (v : VoiceId) (hy : Changes wr s y) :
    Changes wr s (settleVoice v y) := by
  unfold settleVoice
  repeat' first
    | with_reducible exact hy | with_reducible assumption | (exact fun _ => rfl) | (exact fun _ => ⟨rfl, rfl⟩)
    | (exact rfl) | (exact Or.inl (Nat.le_refl _)) | (intro _) | with_reducible apply enterBenched_changes
    | with_reducible apply enterIdle_changes | with_reducible apply notifyBench_changes
    | with_reducible apply offerIdle_changes | with_reducible apply offerBenched_changes | split | dsimp only

theorem endDamp_changes {wr : Bool} {s y : State} (v : VoiceId) (hy : Changes wr s y) :
    Changes wr s (endDamp v y) := by
  unfold endDamp
  repeat' first
    | with_reducible exact hy | with_reducible assumption | (exact fun _ => rfl) | (exact fun _ => ⟨rfl, rfl⟩)
    | (exact rfl) | (exact Or.inl (Nat.le_refl _)) | (intro _) | with_reducible apply startFor_changes
    | with_reducible apply enterTuning_changes | with_reducible apply settleVoice_changes | split | dsimp only

theorem replacePending_changes {wr : Bool} {s y : State} (v : VoiceId) (pend : Pending) (hy : Changes wr s y) :
    Changes wr s (replacePending v pend y) := by
  unfold replacePending
  repeat' first
    | with_reducible exact hy | with_reducible assumption | (exact fun _ => rfl) | (exact fun _ => ⟨rfl, rfl⟩)
    | (exact rfl) | (exact Or.inl (Nat.le_refl _)) | (intro _) | with_reducible apply reportWaiting_changes
    | with_reducible apply voice_c | split | dsimp only

theorem voidVoice_changes {wr : Bool} {s y : State} (v : VoiceId) (hy : Changes wr s y) :
    Changes wr s (voidVoice v y) := by
  unfold voidVoice
  repeat' first
    | with_reducible exact hy | with_reducible assumption | (exact fun _ => rfl) | (exact fun _ => ⟨rfl, rfl⟩)
    | (exact rfl) | (exact Or.inl (Nat.le_refl _)) | (intro _) | with_reducible apply takeVoice_changes
    | with_reducible apply setBenchReason_changes | with_reducible apply enterBenched_changes
    | with_reducible apply benchNotice_changes | with_reducible apply offerBenched_changes
    | with_reducible apply replacePending_changes | split | dsimp only

theorem benchAfterWrite_changes {wr : Bool} {s y : State} (v : VoiceId) (void : Bool) (hy : Changes wr s y) :
    Changes wr s (benchAfterWrite v void y) := by
  unfold benchAfterWrite
  repeat' first
    | with_reducible exact hy | with_reducible assumption | (exact fun _ => rfl) | (exact fun _ => ⟨rfl, rfl⟩)
    | (exact rfl) | (exact Or.inl (Nat.le_refl _)) | (intro _) | with_reducible apply setBenchReason_changes
    | with_reducible apply enterIdle_changes | with_reducible apply benchNotice_changes
    | with_reducible apply offerIdle_changes | with_reducible apply voidVoice_changes | split | dsimp only

theorem forceClaim_changes {wr : Bool} {s y : State} (v : VoiceId) (hy : Changes wr s y) :
    Changes wr s (forceClaim v y) := by
  unfold forceClaim
  repeat' first
    | with_reducible exact hy | with_reducible assumption | (exact fun _ => rfl) | (exact fun _ => ⟨rfl, rfl⟩)
    | (exact rfl) | (exact Or.inl (Nat.le_refl _)) | (intro _) | with_reducible apply takeVoice_changes
    | with_reducible apply revive_changes | with_reducible apply enterTuning_changes
    | with_reducible apply replacePending_changes | split | dsimp only

theorem dampReport_changes {wr : Bool} {s y : State} (v : VoiceId) (hy : Changes wr s y) :
    Changes wr s (dampReport v y) := by
  unfold dampReport
  repeat' first
    | with_reducible exact hy | with_reducible assumption | (exact fun _ => rfl) | (exact fun _ => ⟨rfl, rfl⟩)
    | (exact rfl) | (exact Or.inl (Nat.le_refl _)) | (intro _) | with_reducible apply voice_c | split | dsimp only

theorem joinStore_changes {w : Bool} {s t : State} {op : StoreOp} {m : Bool} (h : Changes w s t) (k : storeRoom t = true) :
    Changes w s (joinStore op m t) :=
  store_c h (fun _ => rfl) rfl rfl (.inr (by simp [storeRoom] at k; simp; omega))

theorem setSelect_changes {w : Bool} {s t : State} {p : PartId} {x : Option PendingSelect} (h : Changes w s t) :
    Changes w s (setSelect p x t) := store_c h (fun _ => rfl) rfl rfl (.inl (Nat.le_refl _))

theorem placeSelect_changes {w : Bool} {s t : State} (p : PartId) (h : Changes w s t) : Changes w s (placeSelect p t) := by
  unfold placeSelect
  split
  · next k => exact joinStore_changes (setSelect_changes h) k
  · exact h

theorem placeSelects_changes {wr : Bool} {s y : State} (hy : Changes wr s y) :
    Changes wr s (placeSelects y) := by
  unfold placeSelects
  repeat' first
    | with_reducible exact hy | with_reducible assumption | (exact fun _ => rfl) | (exact fun _ => ⟨rfl, rfl⟩)
    | (exact rfl) | (exact Or.inl (Nat.le_refl _)) | (intro _) | with_reducible apply forEach_changes
    | with_reducible apply placeSelect_changes | split | dsimp only

theorem coalesce_length (p : PartId) (slot : Byte) (timing : Timing) (q : List StoreEntry) :
    (coalesce p slot timing q).length = q.length := by cases q <;> simp [coalesce]

theorem placeRecall_changes {w : Bool} {s t u : State} {p : PartId} {slot : Byte} {timing : Timing} (h : Changes w s t)
    (k : placeRecall p slot timing t = some u) : Changes w s u := by
  unfold placeRecall at k
  dsimp only at k
  split at k
  · cases k
    exact store_c (placeSelects_changes h) (fun _ => rfl) rfl rfl (.inl (by simp [coalesce_length]))
  · split at k
    · next hr => cases k; exact joinStore_changes (placeSelects_changes h) hr
    · cases k

theorem selectRecall_changes {w : Bool} {s t : State} (p : PartId) (slot : Byte) (timing : Timing) (h : Changes w s t) :
    Changes w s (selectRecall p slot timing t) := by
  unfold selectRecall
  split
  · next k => exact placeRecall_changes h k
  · exact setSelect_changes (placeSelects_changes h)

theorem placeStore_changes {w : Bool} {s t u : State} {op : StoreOp} (h : Changes w s t) (k : placeStore op t = some u) :
    Changes w s u := by
  unfold placeStore at k
  dsimp only at k
  split at k
  · next hr => cases k; exact joinStore_changes (placeSelects_changes h) hr
  · cases k

theorem leaveStore_changes {w : Bool} {s t : State} (h : Changes w s t) : Changes w s (leaveStore t) :=
  store_c h (fun _ => rfl) rfl rfl (.inl (by simp))

theorem setStaging_changes {wr : Bool} {s y : State} (p : PartId) (x : Option Staged) (hy : Changes wr s y) :
    Changes wr s (setStaging p x y) := by
  unfold setStaging
  repeat' first
    | with_reducible exact hy | with_reducible assumption | (exact fun _ => rfl) | (exact fun _ => ⟨rfl, rfl⟩)
    | (exact rfl) | (exact Or.inl (Nat.le_refl _)) | (intro _) | with_reducible apply store_c | split | dsimp only

theorem commitStaged_changes {wr : Bool} {s y : State} (p : PartId) (hy : Changes wr s y) :
    Changes wr s (commitStaged p y) := by
  unfold commitStaged
  repeat' first
    | with_reducible exact hy | with_reducible assumption | (exact fun _ => rfl) | (exact fun _ => ⟨rfl, rfl⟩)
    | (exact rfl) | (exact Or.inl (Nat.le_refl _)) | (intro _) | with_reducible apply offerNotice_changes
    | with_reducible apply recallCommit_changes | with_reducible apply setStaging_changes | split | dsimp only

theorem recallFault_changes {wr : Bool} {s y : State} (p : PartId) (slot : Byte) (check : Bool) (hy : Changes wr s y) :
    Changes wr s (recallFault p slot check y) := by
  unfold recallFault
  repeat' first
    | with_reducible exact hy | with_reducible assumption | (exact fun _ => rfl) | (exact fun _ => ⟨rfl, rfl⟩)
    | (exact rfl) | (exact Or.inl (Nat.le_refl _)) | (intro _) | with_reducible apply bump_changes
    | with_reducible apply offerNotice_changes | split | dsimp only

theorem recallGood_changes {wr : Bool} {s y : State} (p : PartId) (r : Staged) (timing : Timing) (hy : Changes wr s y) :
    Changes wr s (recallGood p r timing y) := by
  unfold recallGood
  repeat' first
    | with_reducible exact hy | with_reducible assumption | (exact fun _ => rfl) | (exact fun _ => ⟨rfl, rfl⟩)
    | (exact rfl) | (exact Or.inl (Nat.le_refl _)) | (intro _) | with_reducible apply bump_changes
    | with_reducible apply offerNotice_changes | with_reducible apply setStaging_changes
    | with_reducible apply commitStaged_changes | split | dsimp only

theorem endRecall_changes {wr : Bool} {s y : State} (p : PartId) (slot : Byte) (timing : Timing) (hy : Changes wr s y) :
    Changes wr s (endRecall p slot timing y) := by
  unfold endRecall
  repeat' first
    | with_reducible exact hy | with_reducible assumption | (exact fun _ => rfl) | (exact fun _ => ⟨rfl, rfl⟩)
    | (exact rfl) | (exact Or.inl (Nat.le_refl _)) | (intro _) | with_reducible apply recallFault_changes
    | with_reducible apply recallGood_changes | split | dsimp only

theorem storedPatch_changes {wr : Bool} {s y : State} (op : StoreOp) (hy : Changes wr s y) :
    Changes wr s (storedPatch op y) := by
  unfold storedPatch
  repeat' first
    | with_reducible exact hy | with_reducible assumption | (exact fun _ => rfl) | (exact fun _ => ⟨rfl, rfl⟩)
    | (exact rfl) | (exact Or.inl (Nat.le_refl _)) | (intro _) | with_reducible apply params_c | split | dsimp only

theorem completeWrite_changes {wr : Bool} {s y : State} (op : StoreOp) (hy : Changes wr s y) :
    Changes wr s (completeWrite op y) := by
  unfold completeWrite
  repeat' first
    | with_reducible exact hy | with_reducible assumption | (exact fun _ => rfl) | (exact fun _ => ⟨rfl, rfl⟩)
    | (exact rfl) | (exact Or.inl (Nat.le_refl _)) | (intro _) | with_reducible apply offerNotice_changes
    | with_reducible apply leaveStore_changes | with_reducible apply storedPatch_changes | split | dsimp only

theorem length_flatMap_const {α β : Type} (l : List α) (f : α → List β) (n : Nat) (h : ∀ x, (f x).length = n) :
    (l.flatMap f).length = l.length * n := by
  induction l with
  | nil => simp
  | cons x xs ih => simp [List.flatMap_cons, h, ih, Nat.add_mul, Nat.add_comm]

theorem length_bytesOfWord (w : Word) : (bytesOfWord w).length = 2 := rfl

theorem length_padTo {n : Nat} {l : List Byte} (h : l.length ≤ n) : (padTo n l).length = n := by
  simp [padTo]; omega

theorem length_withCheck (l : List Byte) : (withCheck l).length = l.length + 2 := by simp [withCheck, length_bytesOfWord]

theorem length_slice_le (off len : Nat) (l : List Byte) : (slice off len l).length ≤ len := by simp [slice] <;> omega

/-- A patch record is 128 bytes (R106). -/
theorem length_patchBytes (name : Vector Byte 12) (values : Vector Word12 48) : (patchBytes name values).length = 128 := by
  unfold patchBytes
  rw [length_withCheck, length_padTo]
  simp [length_flatMap_const _ _ 2 (fun v => length_bytesOfWord _)]

theorem length_slotBytes (x : Option Byte) : (slotBytes x).length = 2 := by cases x <;> rfl

theorem length_zoneBytes (z : Zone) : (zoneBytes z).length = 8 := rfl
theorem length_partBytes (c : PartCfg) : (partBytes c).length = 12 := rfl
theorem length_descriptorBytes (d : Descriptor) : (descriptorBytes d).length = 6 := rfl
theorem length_intBytes (x : Int) : (intBytes x).length = 2 := rfl
theorem length_targetBytes (t : Target) : (targetBytes t).length = 4 := rfl
theorem length_tuneConfigBytes (c : TuneConfig) : (tuneConfigBytes c).length = 12 := rfl
theorem length_controlBytes (c : ControlCfg) : (controlBytes c).length = 8 := rfl
theorem length_optionsBytes (o : SetupOptions) : (optionsBytes o).length = 14 := by
  simp [optionsBytes, length_flatMap_const _ _ 2 length_slotBytes]
theorem length_calBytes (r : CalRecord) : (calBytes r).length = 36 := by
  simp [calBytes, length_flatMap_const _ _ 2 length_bytesOfWord]

/-- The setup block is 2048 bytes (R106, R196). -/
theorem length_setupBytes (t : SetupTables) : (setupBytes t).length = 2048 := by
  unfold setupBytes
  rw [length_withCheck, length_padTo]
  simp only [List.length_append, length_flatMap_const _ _ 8 length_zoneBytes, length_flatMap_const _ _ 12 length_partBytes,
    length_flatMap_const _ _ 6 length_descriptorBytes, length_flatMap_const _ _ 2 length_intBytes,
    length_flatMap_const _ _ 4 length_targetBytes, length_tuneConfigBytes, length_optionsBytes,
    length_flatMap_const _ _ 8 length_controlBytes, length_flatMap_const _ (fun c => [optByte c, 0]) 2 (fun _ => rfl),
    Vector.length_toList, List.length_cons, List.length_nil]
  omega

/-- The calibration block is 2048 bytes (R106, R196). -/
theorem length_calBlockBytes (r : Vector CalRecord 48) : (calBlockBytes r).length = 2048 := by
  unfold calBlockBytes
  rw [length_withCheck, length_padTo]
  simp [length_flatMap_const _ _ 36 length_calBytes]

/-- Every image lies below 9000H (R106). -/
theorem image_bound {op : StoreOp} {base : Nat} {bytes : List Byte} (h : op.image = some (base, bytes)) :
    base + bytes.length ≤ 0x9000 := by
  cases op with
  | patchWrite p slot values name e =>
    simp only [StoreOp.image, Option.some.injEq, Prod.mk.injEq] at h
    obtain ⟨rfl, rfl⟩ := h
    have := slot.isLt
    rw [length_patchBytes, slotAddress]
    omega
  | setupSave t =>
    simp only [StoreOp.image, Option.some.injEq, Prod.mk.injEq] at h
    obtain ⟨rfl, rfl⟩ := h
    rw [length_setupBytes]; omega
  | calSave r =>
    simp only [StoreOp.image, Option.some.injEq, Prod.mk.injEq] at h
    obtain ⟨rfl, rfl⟩ := h
    rw [length_calBlockBytes]; omega
  | recallRead _ _ _ => cases h
  | setupLoad => cases h
  | calLoad => cases h

theorem length_pageOf (bytes : List Byte) (k : Nat) : (pageOf bytes k).length = min 64 (bytes.length - 64 * k) := by
  simp [pageOf, slice]

theorem length_mixedPage (m : BitVec 512) (old new : List Byte) : (mixedPage m old new).length = new.length := by
  simp [mixedPage]

/-- A page of an image is written: nothing beyond 9000H. -/
theorem page_changes {w : Bool} {s t : State} {op : StoreOp} {base k : Nat} {bytes page : List Byte} (h : Changes w s t)
    (hi : op.image = some (base, bytes)) (hp : page.length = (pageOf bytes k).length) :
    Changes w s (t.withStore { t.store with mem := t.store.mem.writeRun (base + 64 * k) page }) := by
  have hb := image_bound hi
  rw [length_pageOf] at hp
  by_cases hn : page = []
  · subst hn
    exact store_c h (fun _ => rfl) rfl rfl (.inl (Nat.le_refl _))
  · refine .snoc h (.memory _ _ ?_)
    have : 0 < page.length := List.length_pos_iff.mpr hn
    omega

theorem completePage_changes {w : Bool} {s t : State} {op : StoreOp} {base : Nat} {bytes : List Byte} {k : Nat} (h : Changes w s t)
    (hi : op.image = some (base, bytes)) : Changes w s (completePage op base bytes k t) := by
  have h1 : Changes w s (t.withStore { t.store with
      mem := t.store.mem.writeRun (base + 64 * k) (pageOf bytes k), pageTimer := none }) :=
    store_c (t := t.withStore { t.store with mem := t.store.mem.writeRun (base + 64 * k) (pageOf bytes k) })
      (page_changes (k := k) h hi rfl) (fun _ => rfl) rfl rfl (.inl (Nat.le_refl _))
  unfold completePage
  dsimp only
  split
  · exact store_c h1 (fun _ => rfl) rfl rfl (.inl (Nat.le_refl _))
  · exact completeWrite_changes _ h1

theorem cutPage_changes {w : Bool} {s t : State} (draw : Nat) (h : Changes w s t) :
    Changes w s (t.withStore { t.store with mem := cutPage draw t.store }) := by
  unfold cutPage
  split
  · next hi _ =>
    rw [Option.bind_eq_some_iff] at hi
    obtain ⟨e, _, hi⟩ := hi
    exact page_changes h hi (length_mixedPage _ _ _)
  · exact store_c h (fun _ => rfl) rfl rfl (.inl (Nat.le_refl _))

theorem failPage_changes {w : Bool} {s t : State} (op : StoreOp) (h : Changes w s t) : Changes w s (failPage op t) := by
  unfold failPage
  exact leaveStore_changes (bump_changes (offerNotice_changes (.snoc (cutPage_changes t.freeCount h) (.free _))))





theorem polyRetrigger_changes {wr : Bool} {s y : State} (e : PoolPos) (hy : Changes wr s y) :
    Changes wr s (polyRetrigger e y) := by
  unfold polyRetrigger
  repeat' first
    | with_reducible exact hy | with_reducible assumption | (exact fun _ => rfl) | (exact fun _ => ⟨rfl, rfl⟩)
    | (exact rfl) | (exact Or.inl (Nat.le_refl _)) | (intro _) | with_reducible apply groupRetrigger_changes | split
    | dsimp only

theorem groupPress_changes {wr : Bool} {s y : State} (p : PartId) (old : Option PoolPos) (pressed : PoolPos) (retrigger : Bool)
    (hy : Changes wr s y) :
    Changes wr s (groupPress p old pressed retrigger y) := by
  unfold groupPress
  repeat' first
    | with_reducible exact hy | with_reducible assumption | (exact fun _ => rfl) | (exact fun _ => ⟨rfl, rfl⟩)
    | (exact rfl) | (exact Or.inl (Nat.le_refl _)) | (intro _) | with_reducible apply firstKey_changes
    | with_reducible apply soundingChange_changes | with_reducible apply groupRetrigger_changes | split | dsimp only

theorem partNoteOn_changes {w : Bool} {s t : State} (p : PartId) (ch : ChannelId) (key sounding vel : Key) (h : Changes w s t) :
    Changes w s (partNoteOn p ch key sounding vel t) := by
  unfold partNoteOn
  split
  · next e he =>
    have h1 : Changes w s (touchEntry p e vel t) := .snoc h (.touch p e vel (List.mem_of_find?_eq_some he))
    split
    · exact polyRetrigger_changes _ h1
    · exact groupPress_changes _ _ _ _ h1
  · split
    · exact dropNote_changes _ h
    · next e he =>
      have hn : t.entry e = none := by simpa using List.find?_some he
      have h1 : Changes w s (addEntry p e ch key sounding vel t) := .snoc h (.add p e ch key sounding vel hn)
      split
      · exact polyAllocate_changes _ _ _ h1
      · exact groupPress_changes _ _ _ _ h1

theorem visitZones_changes {w : Bool} {s t : State} (ch : ChannelId) (key vel : Key) (zs : List Zone) (done : List PartId)
    (h : Changes w s t) : Changes w s (visitZones ch key vel zs done t) := by
  induction zs generalizing done t with
  | nil => exact h
  | cons z zs ih =>
    unfold visitZones
    split
    · refine ih _ (partNoteOn_changes _ _ _ _ _ ?_)
      split
      · exact h
      · exact commitStaged_changes _ h
    · exact ih _ h

theorem takeNoteOn_changes {wr : Bool} {s y : State} (channel key velocity : Byte) (hy : Changes wr s y) :
    Changes wr s (takeNoteOn channel key velocity y) := by
  unfold takeNoteOn
  repeat' first
    | with_reducible exact hy | with_reducible assumption | (exact fun _ => rfl) | (exact fun _ => ⟨rfl, rfl⟩)
    | (exact rfl) | (exact Or.inl (Nat.le_refl _)) | (intro _) | with_reducible apply visitZones_changes | split
    | dsimp only

theorem polyRelease_changes {wr : Bool} {s y : State} (p : PartId) (e : PoolPos) (x : HeldEntry) (hy : Changes wr s y) :
    Changes wr s (polyRelease p e x y) := by
  unfold polyRelease
  repeat' first
    | with_reducible exact hy | with_reducible assumption | (exact fun _ => rfl) | (exact fun _ => ⟨rfl, rfl⟩)
    | (exact rfl) | (exact Or.inl (Nat.le_refl _)) | (intro _) | with_reducible apply forEach_changes
    | with_reducible apply cancelToward_changes | with_reducible apply releaseOrTransfer_changes | split | dsimp only

theorem groupRelease_changes {wr : Bool} {s y : State} (p : PartId) (old : Option PoolPos) (e : PoolPos) (x : HeldEntry)
    (hy : Changes wr s y) :
    Changes wr s (groupRelease p old e x y) := by
  unfold groupRelease
  repeat' first
    | with_reducible exact hy | with_reducible assumption | (exact fun _ => rfl) | (exact fun _ => ⟨rfl, rfl⟩)
    | (exact rfl) | (exact Or.inl (Nat.le_refl _)) | (intro _) | with_reducible apply lastKeyUp_changes
    | with_reducible apply soundingChange_changes | split | dsimp only

theorem releaseEntry_changes {wr : Bool} {s y : State} (p : PartId) (e : PoolPos) (x : HeldEntry)
    (hy : Changes wr s y) :
    Changes wr s (releaseEntry p e x y) := by
  unfold releaseEntry
  repeat' first
    | with_reducible exact hy | with_reducible assumption | (exact fun _ => rfl) | (exact fun _ => ⟨rfl, rfl⟩)
    | (exact rfl) | (exact Or.inl (Nat.le_refl _)) | (intro _) | with_reducible apply removeEntry_changes
    | with_reducible apply polyRelease_changes | with_reducible apply groupRelease_changes | split | dsimp only

theorem partNoteOff_changes {wr : Bool} {s y : State} (ch : ChannelId) (key : Key) (p : PartId) (hy : Changes wr s y) :
    Changes wr s (partNoteOff ch key p y) := by
  unfold partNoteOff
  repeat' first
    | with_reducible exact hy | with_reducible assumption | (exact fun _ => rfl) | (exact fun _ => ⟨rfl, rfl⟩)
    | (exact rfl) | (exact Or.inl (Nat.le_refl _)) | (intro _) | with_reducible apply releaseEntry_changes | split
    | dsimp only

theorem takeNoteOff_changes {wr : Bool} {s y : State} (channel key : Byte) (hy : Changes wr s y) :
    Changes wr s (takeNoteOff channel key y) := by
  unfold takeNoteOff
  repeat' first
    | with_reducible exact hy | with_reducible assumption | (exact fun _ => rfl) | (exact fun _ => ⟨rfl, rfl⟩)
    | (exact rfl) | (exact Or.inl (Nat.le_refl _)) | (intro _) | with_reducible apply forEach_changes
    | with_reducible apply partNoteOff_changes | split | dsimp only

theorem onListeners_changes {w : Bool} {s t : State} {channel : Byte} {f : PartId → State → State} (h : Changes w s t)
    (k : ∀ p u, Changes w s u → Changes w s (f p u)) : Changes w s (onListeners channel f t) := by
  unfold onListeners
  split
  · exact forEach_changes h k
  · exact h

theorem partSustain_changes {wr : Bool} {s y : State} (on : Bool) (p : PartId) (hy : Changes wr s y) :
    Changes wr s (partSustain on p y) := by
  unfold partSustain
  repeat' first
    | with_reducible exact hy | with_reducible assumption | (exact fun _ => rfl) | (exact fun _ => ⟨rfl, rfl⟩)
    | (exact rfl) | (exact Or.inl (Nat.le_refl _)) | (intro _) | with_reducible apply State.setSustain_changes
    | with_reducible apply releaseGated_changes | split | dsimp only

theorem partBend_changes {wr : Bool} {s y : State} (b : Int) (p : PartId) (hy : Changes wr s y) :
    Changes wr s (partBend b p y) := by
  unfold partBend
  repeat' first
    | with_reducible exact hy | with_reducible assumption | (exact fun _ => rfl) | (exact fun _ => ⟨rfl, rfl⟩)
    | (exact rfl) | (exact Or.inl (Nat.le_refl _)) | (intro _) | with_reducible apply computePart_changes
    | with_reducible apply router_c | split | dsimp only

theorem takeBend_changes {wr : Bool} {s y : State} (channel : Byte) (u : Word) (hy : Changes wr s y) :
    Changes wr s (takeBend channel u y) := by
  unfold takeBend
  repeat' first
    | with_reducible exact hy | with_reducible assumption | (exact fun _ => rfl) | (exact fun _ => ⟨rfl, rfl⟩)
    | (exact rfl) | (exact Or.inl (Nat.le_refl _)) | (intro _) | with_reducible apply onListeners_changes
    | with_reducible apply partBend_changes | split | dsimp only

theorem setLatch_changes {wr : Bool} {s y : State} (ch : ChannelId) (x : Option (ParamId × Fin 64))
    (hy : Changes wr s y) :
    Changes wr s (setLatch ch x y) := by
  unfold setLatch
  repeat' first
    | with_reducible exact hy | with_reducible assumption | (exact fun _ => rfl) | (exact fun _ => ⟨rfl, rfl⟩)
    | (exact rfl) | (exact Or.inl (Nat.le_refl _)) | (intro _) | with_reducible apply router_c | split | dsimp only

theorem takeFine_changes {wr : Bool} {s y : State} (channel parameter low : Byte) (hy : Changes wr s y) :
    Changes wr s (takeFine channel parameter low y) := by
  unfold takeFine
  repeat' first
    | with_reducible exact hy | with_reducible assumption | (exact fun _ => rfl) | (exact fun _ => ⟨rfl, rfl⟩)
    | (exact rfl) | (exact Or.inl (Nat.le_refl _)) | (intro _) | with_reducible apply setLatch_changes | split
    | dsimp only

theorem takeCoarse_changes {wr : Bool} {s y : State} (channel parameter high : Byte) (hy : Changes wr s y) :
    Changes wr s (takeCoarse channel parameter high y) := by
  unfold takeCoarse
  repeat' first
    | with_reducible exact hy | with_reducible assumption | (exact fun _ => rfl) | (exact fun _ => ⟨rfl, rfl⟩)
    | (exact rfl) | (exact Or.inl (Nat.le_refl _)) | (intro _) | with_reducible apply forEach_changes
    | with_reducible apply writeParam_changes | with_reducible apply setLatch_changes | split | dsimp only

theorem partAllOff_changes {wr : Bool} {s y : State} (p : PartId) (hy : Changes wr s y) :
    Changes wr s (partAllOff p y) := by
  unfold partAllOff
  repeat' first
    | with_reducible exact hy | with_reducible assumption | (exact fun _ => rfl) | (exact fun _ => ⟨rfl, rfl⟩)
    | (exact rfl) | (exact Or.inl (Nat.le_refl _)) | (intro _) | with_reducible apply forEach_changes
    | with_reducible apply State.setSustain_changes | with_reducible apply removeEntry_changes
    | with_reducible apply cancelPart_changes | with_reducible apply releaseGated_changes | split | dsimp only

theorem partSelect_changes {wr : Bool} {s y : State} (slot : Byte) (p : PartId) (hy : Changes wr s y) :
    Changes wr s (partSelect slot p y) := by
  unfold partSelect
  repeat' first
    | with_reducible exact hy | with_reducible assumption | (exact fun _ => rfl) | (exact fun _ => ⟨rfl, rfl⟩)
    | (exact rfl) | (exact Or.inl (Nat.le_refl _)) | (intro _) | with_reducible apply selectRecall_changes | split
    | dsimp only

theorem storePart_changes {s t : State} {p : PartId} {c : PartCfg} (h : Changes true s t) : Changes true s (storePart p c t) :=
  router_c h nofun rfl rfl

theorem clearPart_changes {wr : Bool} {s y : State} (p : PartId) (hy : Changes wr s y) :
    Changes wr s (clearPart p y) := by
  unfold clearPart
  repeat' first
    | with_reducible exact hy | with_reducible assumption | (exact fun _ => rfl) | (exact fun _ => ⟨rfl, rfl⟩)
    | (exact rfl) | (exact Or.inl (Nat.le_refl _)) | (intro _) | with_reducible apply forEach_changes
    | with_reducible apply State.setSustain_changes | with_reducible apply removeEntry_changes
    | with_reducible apply dampVoice_changes | with_reducible apply cancelPart_changes | split | dsimp only

theorem rechoose_changes {wr : Bool} {s y : State} (p : PartId) (old : Option PoolPos) (hy : Changes wr s y) :
    Changes wr s (rechoose p old y) := by
  unfold rechoose
  repeat' first
    | with_reducible exact hy | with_reducible assumption | (exact fun _ => rfl) | (exact fun _ => ⟨rfl, rfl⟩)
    | (exact rfl) | (exact Or.inl (Nat.le_refl _)) | (intro _) | with_reducible apply soundingChange_changes | split
    | dsimp only

theorem writePart_changes {s y : State} (p : PartId) (c : PartCfg) (hy : Changes true s y) :
    Changes true s (writePart p c y) := by
  unfold writePart
  repeat' first
    | with_reducible exact hy | with_reducible assumption | (exact fun _ => rfl) | (exact fun _ => ⟨rfl, rfl⟩)
    | (exact rfl) | (exact Or.inl (Nat.le_refl _)) | (intro _) | with_reducible apply computePart_changes
    | with_reducible apply storePart_changes | with_reducible apply clearPart_changes
    | with_reducible apply rechoose_changes | split | dsimp only

theorem modControlState_changes {wr : Bool} {s y : State} (c : ControlId) (f : ControlState → ControlState)
    (hy : Changes wr s y) :
    Changes wr s (modControlState c f y) := by
  unfold modControlState
  repeat' first
    | with_reducible exact hy | with_reducible assumption | (exact fun _ => rfl) | (exact fun _ => ⟨rfl, rfl⟩)
    | (exact rfl) | (exact Or.inl (Nat.le_refl _)) | (intro _) | with_reducible apply panel_c | split | dsimp only

theorem modControl_changes {s t : State} {c : ControlId} {f : ControlCfg → ControlCfg} (h : Changes true s t) :
    Changes true s (modControl c f t) := panel_c h nofun

theorem clearRun_changes {wr : Bool} {s y : State} (c : ControlId) (hy : Changes wr s y) :
    Changes wr s (clearRun c y) := by
  unfold clearRun
  repeat' first
    | with_reducible exact hy | with_reducible assumption | (exact fun _ => rfl) | (exact fun _ => ⟨rfl, rfl⟩)
    | (exact rfl) | (exact Or.inl (Nat.le_refl _)) | (intro _) | with_reducible apply modControlState_changes | split
    | dsimp only

theorem setRound_changes {wr : Bool} {s y : State} (r : ScanRound) (hy : Changes wr s y) :
    Changes wr s (setRound r y) := by
  unfold setRound
  repeat' first
    | with_reducible exact hy | with_reducible assumption | (exact fun _ => rfl) | (exact fun _ => ⟨rfl, rfl⟩)
    | (exact rfl) | (exact Or.inl (Nat.le_refl _)) | (intro _) | with_reducible apply panel_c | split | dsimp only

theorem driveFrom_changes {wr : Bool} {s y : State} (lo : Nat) (hy : Changes wr s y) :
    Changes wr s (driveFrom lo y) := by
  unfold driveFrom
  repeat' first
    | with_reducible exact hy | with_reducible assumption | (exact fun _ => rfl) | (exact fun _ => ⟨rfl, rfl⟩)
    | (exact rfl) | (exact Or.inl (Nat.le_refl _)) | (intro _) | with_reducible apply setRound_changes
    | with_reducible apply panel_c | split | dsimp only

theorem convertFrom_changes {wr : Bool} {s y : State} (m : Fin 16) (lo : Nat) (hy : Changes wr s y) :
    Changes wr s (convertFrom m lo y) := by
  unfold convertFrom
  repeat' first
    | with_reducible exact hy | with_reducible assumption | (exact fun _ => rfl) | (exact fun _ => ⟨rfl, rfl⟩)
    | (exact rfl) | (exact Or.inl (Nat.le_refl _)) | (intro _) | with_reducible apply setRound_changes
    | with_reducible apply driveFrom_changes | split | dsimp only

theorem startScanTimer_changes {wr : Bool} {s y : State} (hy : Changes wr s y) :
    Changes wr s (startScanTimer y) := by
  unfold startScanTimer
  repeat' first
    | with_reducible exact hy | with_reducible assumption | (exact fun _ => rfl) | (exact fun _ => ⟨rfl, rfl⟩)
    | (exact rfl) | (exact Or.inl (Nat.le_refl _)) | (intro _) | with_reducible apply panel_c | split | dsimp only

theorem reportChangeOf_changes {wr : Bool} {s y : State} (c : ControlId) (reported : Word12) (applied : Bool)
    (hy : Changes wr s y) :
    Changes wr s (reportChangeOf c reported applied y) := by
  unfold reportChangeOf
  repeat' first
    | with_reducible exact hy | with_reducible assumption | (exact fun _ => rfl) | (exact fun _ => ⟨rfl, rfl⟩)
    | (exact rfl) | (exact Or.inl (Nat.le_refl _)) | (intro _) | with_reducible apply offerNotice_changes | split
    | dsimp only

theorem acceptChange_changes {wr : Bool} {s y : State} (c : ControlId) (reported : Word12) (hy : Changes wr s y) :
    Changes wr s (acceptChange c reported y) := by
  unfold acceptChange
  repeat' first
    | with_reducible exact hy | with_reducible assumption | (exact fun _ => rfl) | (exact fun _ => ⟨rfl, rfl⟩)
    | (exact rfl) | (exact Or.inl (Nat.le_refl _)) | (intro _) | with_reducible apply panelChange_changes
    | with_reducible apply reportChangeOf_changes | split | dsimp only

theorem primeControl_changes {wr : Bool} {s y : State} (c : ControlId) (x : Word12) (hy : Changes wr s y) :
    Changes wr s (primeControl c x y) := by
  unfold primeControl
  repeat' first
    | with_reducible exact hy | with_reducible assumption | (exact fun _ => rfl) | (exact fun _ => ⟨rfl, rfl⟩)
    | (exact rfl) | (exact Or.inl (Nat.le_refl _)) | (intro _) | with_reducible apply evaluate_changes
    | with_reducible apply modControlState_changes | split | dsimp only

theorem growRun_changes {wr : Bool} {s y : State} (c : ControlId) (v : Word12) (hy : Changes wr s y) :
    Changes wr s (growRun c v y) := by
  unfold growRun
  repeat' first
    | with_reducible exact hy | with_reducible assumption | (exact fun _ => rfl) | (exact fun _ => ⟨rfl, rfl⟩)
    | (exact rfl) | (exact Or.inl (Nat.le_refl _)) | (intro _) | with_reducible apply modControlState_changes
    | with_reducible apply acceptChange_changes | split | dsimp only

theorem filterSample_changes {wr : Bool} {s y : State} (c : ControlId) (x : Word12) (hy : Changes wr s y) :
    Changes wr s (filterSample c x y) := by
  unfold filterSample
  repeat' first
    | with_reducible exact hy | with_reducible assumption | (exact fun _ => rfl) | (exact fun _ => ⟨rfl, rfl⟩)
    | (exact rfl) | (exact Or.inl (Nat.le_refl _)) | (intro _) | with_reducible apply clearRun_changes
    | with_reducible apply primeControl_changes | with_reducible apply growRun_changes | split | dsimp only

theorem takeSample_changes {wr : Bool} {s y : State} (m : Fin 16) (a : Fin 6) (x : Word12) (hy : Changes wr s y) :
    Changes wr s (takeSample m a x y) := by
  unfold takeSample
  repeat' first
    | with_reducible exact hy | with_reducible assumption | (exact fun _ => rfl) | (exact fun _ => ⟨rfl, rfl⟩)
    | (exact rfl) | (exact Or.inl (Nat.le_refl _)) | (intro _) | with_reducible apply filterSample_changes | split
    | dsimp only

theorem clearRunOf_changes {wr : Bool} {s y : State} (c : Option ControlId) (hy : Changes wr s y) :
    Changes wr s (clearRunOf c y) := by
  unfold clearRunOf
  repeat' first
    | with_reducible exact hy | with_reducible assumption | (exact fun _ => rfl) | (exact fun _ => ⟨rfl, rfl⟩)
    | (exact rfl) | (exact Or.inl (Nat.le_refl _)) | (intro _) | with_reducible apply clearRun_changes | split
    | dsimp only

theorem writeScanEntry_changes {s t : State} (n : Fin 96) (c : Option ControlId) (h : Changes true s t) :
    Changes true s (writeScanEntry n c t) := by
  unfold writeScanEntry
  split
  · exact h
  · exact clearRunOf_changes _ (clearRunOf_changes _ (panel_c h nofun))

theorem writeType_changes {s y : State} (c : ControlId) (t : ControlType) (hy : Changes true s y) :
    Changes true s (writeType c t y) := by
  unfold writeType
  repeat' first
    | with_reducible exact hy | with_reducible assumption | (exact fun _ => rfl) | (exact fun _ => ⟨rfl, rfl⟩)
    | (exact rfl) | (exact Or.inl (Nat.le_refl _)) | (intro _) | with_reducible apply modControlState_changes
    | with_reducible apply modControl_changes | split | dsimp only

theorem writeBand_changes {s y : State} (c : ControlId) (b : Byte) (hy : Changes true s y) :
    Changes true s (writeBand c b y) := by
  unfold writeBand
  repeat' first
    | with_reducible exact hy | with_reducible assumption | (exact fun _ => rfl) | (exact fun _ => ⟨rfl, rfl⟩)
    | (exact rfl) | (exact Or.inl (Nat.le_refl _)) | (intro _) | with_reducible apply evaluate_changes
    | with_reducible apply modControl_changes | split | dsimp only

theorem writePersistence_changes {s y : State} (c : ControlId) (x : Fin 8) (hy : Changes true s y) :
    Changes true s (writePersistence c x y) := by
  unfold writePersistence
  repeat' first
    | with_reducible exact hy | with_reducible assumption | (exact fun _ => rfl) | (exact fun _ => ⟨rfl, rfl⟩)
    | (exact rfl) | (exact Or.inl (Nat.le_refl _)) | (intro _) | with_reducible apply modControl_changes
    | with_reducible apply clearRun_changes | split | dsimp only

theorem writeReport_changes {s y : State} (c : ControlId) (b : Bool) (hy : Changes true s y) :
    Changes true s (writeReport c b y) := by
  unfold writeReport
  repeat' first
    | with_reducible exact hy | with_reducible assumption | (exact fun _ => rfl) | (exact fun _ => ⟨rfl, rfl⟩)
    | (exact rfl) | (exact Or.inl (Nat.le_refl _)) | (intro _) | with_reducible apply modControl_changes | split
    | dsimp only

theorem unbind_changes {s y : State} (c : ControlId) (hy : Changes true s y) :
    Changes true s (unbind c y) := by
  unfold unbind
  repeat' first
    | with_reducible exact hy | with_reducible assumption | (exact fun _ => rfl) | (exact fun _ => ⟨rfl, rfl⟩)
    | (exact rfl) | (exact Or.inl (Nat.le_refl _)) | (intro _) | with_reducible apply removePickup_changes
    | with_reducible apply modControl_changes | split | dsimp only

theorem unbindOthers_changes {s y : State} (c : ControlId) (b : Option (PartId × ParamId)) (hy : Changes true s y) :
    Changes true s (unbindOthers c b y) := by
  unfold unbindOthers
  repeat' first
    | with_reducible exact hy | with_reducible assumption | (exact fun _ => rfl) | (exact fun _ => ⟨rfl, rfl⟩)
    | (exact rfl) | (exact Or.inl (Nat.le_refl _)) | (intro _) | with_reducible apply forEach_changes
    | with_reducible apply unbind_changes | split | dsimp only

theorem writeBinding_changes {s y : State} (c : ControlId) (b : Option (PartId × ParamId)) (t : Takeover)
    (hy : Changes true s y) :
    Changes true s (writeBinding c b t y) := by
  unfold writeBinding
  repeat' first
    | with_reducible exact hy | with_reducible assumption | (exact fun _ => rfl) | (exact fun _ => ⟨rfl, rfl⟩)
    | (exact rfl) | (exact Or.inl (Nat.le_refl _)) | (intro _) | with_reducible apply removePickup_changes
    | with_reducible apply evaluate_changes | with_reducible apply modControl_changes
    | with_reducible apply unbindOthers_changes | split | dsimp only

theorem writeControl_changes {s y : State} (c : ControlId) (k : ControlCfg) (hy : Changes true s y) :
    Changes true s (writeControl c k y) := by
  unfold writeControl
  repeat' first
    | with_reducible exact hy | with_reducible assumption | (exact fun _ => rfl) | (exact fun _ => ⟨rfl, rfl⟩)
    | (exact rfl) | (exact Or.inl (Nat.le_refl _)) | (intro _) | with_reducible apply writeType_changes
    | with_reducible apply writeBand_changes | with_reducible apply writePersistence_changes
    | with_reducible apply writeReport_changes | with_reducible apply writeBinding_changes | split | dsimp only

theorem putOnLine_changes {wr : Bool} {s y : State} (f : VlFrame) (hy : Changes wr s y) :
    Changes wr s (putOnLine f y) := by
  unfold putOnLine
  repeat' first
    | with_reducible exact hy | with_reducible assumption | (exact fun _ => rfl) | (exact fun _ => ⟨rfl, rfl⟩)
    | (exact rfl) | (exact Or.inl (Nat.le_refl _)) | (intro _) | with_reducible apply vlink_c | split | dsimp only

theorem sendScan_changes {wr : Bool} {s y : State} (x : Fin 512) (hy : Changes wr s y) :
    Changes wr s (sendScan x y) := by
  unfold sendScan
  repeat' first
    | with_reducible exact hy | with_reducible assumption | (exact fun _ => rfl) | (exact fun _ => ⟨rfl, rfl⟩)
    | (exact rfl) | (exact Or.inl (Nat.le_refl _)) | (intro _) | with_reducible apply putOnLine_changes
    | with_reducible apply vlink_c | split | dsimp only

theorem sendRefresh_changes {wr : Bool} {s y : State} (hy : Changes wr s y) :
    Changes wr s (sendRefresh y) := by
  unfold sendRefresh
  repeat' first
    | with_reducible exact hy | with_reducible assumption | (exact fun _ => rfl) | (exact fun _ => ⟨rfl, rfl⟩)
    | (exact rfl) | (exact Or.inl (Nat.le_refl _)) | (intro _) | with_reducible apply putOnLine_changes
    | with_reducible apply vlink_c | split | dsimp only

theorem chooseFrame_changes {wr : Bool} {s y : State} (hy : Changes wr s y) :
    Changes wr s (chooseFrame y) := by
  unfold chooseFrame
  repeat' first
    | with_reducible exact hy | with_reducible assumption | (exact fun _ => rfl) | (exact fun _ => ⟨rfl, rfl⟩)
    | (exact rfl) | (exact Or.inl (Nat.le_refl _)) | (intro _) | with_reducible apply putOnLine_changes
    | with_reducible apply sendScan_changes | with_reducible apply sendRefresh_changes | split | dsimp only

theorem slotSent_changes {wr : Bool} {s y : State} (v : VoiceId) (k : SlotId) (x : Word) (hy : Changes wr s y) :
    Changes wr s (slotSent v k x y) := by
  unfold slotSent
  repeat' first
    | with_reducible exact hy | with_reducible assumption | (exact fun _ => rfl) | (exact fun _ => ⟨rfl, rfl⟩)
    | (exact rfl) | (exact Or.inl (Nat.le_refl _)) | (intro _) | with_reducible apply vlink_c | split | dsimp only

theorem gateSent_changes {w : Bool} {s t : State} (v : VoiceId) (c : GateCmd) (status : LineStatus) (h : Changes w s t) :
    Changes w s (gateSent v c status t) := by
  have h1 : Changes w s (if status = .live then t.withVlink (popCommand v t.vlink) else t) := by
    split
    · exact .snoc h (.pop v)
    · exact h
  unfold gateSent
  dsimp only
  generalize (if status = .live then t.withVlink (popCommand v t.vlink) else t) = u at h1
  split
  · exact dampReport_changes _ h1
  · exact h1

theorem tuneSent_changes {wr : Bool} {s y : State} (c : TuneCmd) (status : LineStatus) (hy : Changes wr s y) :
    Changes wr s (tuneSent c status y) := by
  unfold tuneSent
  repeat' first
    | with_reducible exact hy | with_reducible assumption | (exact fun _ => rfl) | (exact fun _ => ⟨rfl, rfl⟩)
    | (exact rfl) | (exact Or.inl (Nat.le_refl _)) | (intro _) | with_reducible apply vlink_c | split | dsimp only

theorem muteSent_changes {wr : Bool} {s y : State} (status : LineStatus) (hy : Changes wr s y) :
    Changes wr s (muteSent status y) := by
  unfold muteSent
  repeat' first
    | with_reducible exact hy | with_reducible assumption | (exact fun _ => rfl) | (exact fun _ => ⟨rfl, rfl⟩)
    | (exact rfl) | (exact Or.inl (Nat.le_refl _)) | (intro _) | with_reducible apply vlink_c | split | dsimp only

theorem frameSent_changes {wr : Bool} {s y : State} (l : VlLine) (hy : Changes wr s y) :
    Changes wr s (frameSent l y) := by
  unfold frameSent
  repeat' first
    | with_reducible exact hy | with_reducible assumption | (exact fun _ => rfl) | (exact fun _ => ⟨rfl, rfl⟩)
    | (exact rfl) | (exact Or.inl (Nat.le_refl _)) | (intro _) | with_reducible apply slotSent_changes
    | with_reducible apply gateSent_changes | with_reducible apply tuneSent_changes
    | with_reducible apply muteSent_changes | with_reducible apply vlink_c | split | dsimp only

theorem markDelivery_changes {w : Bool} {s t : State} (h : Changes w s t) : Changes w s (markDelivery t) := .snoc h .mark

theorem storeRecord_changes {wr : Bool} {s y : State} (v : VoiceId) (src : Source) (r : CalRecord)
    (hy : Changes wr s y) :
    Changes wr s (storeRecord v src r y) := by
  unfold storeRecord
  repeat' first
    | with_reducible exact hy | with_reducible assumption | (exact fun _ => rfl) | (exact fun _ => ⟨rfl, rfl⟩)
    | (exact rfl) | (exact Or.inl (Nat.le_refl _)) | (intro _) | with_reducible apply tuner_c | split | dsimp only

theorem setLastResult_changes {wr : Bool} {s y : State} (v : VoiceId) (src : Source) (x : LastResult)
    (hy : Changes wr s y) :
    Changes wr s (setLastResult v src x y) := by
  unfold setLastResult
  repeat' first
    | with_reducible exact hy | with_reducible assumption | (exact fun _ => rfl) | (exact fun _ => ⟨rfl, rfl⟩)
    | (exact rfl) | (exact Or.inl (Nat.le_refl _)) | (intro _) | with_reducible apply storeRecord_changes | split
    | dsimp only

theorem forgetDrift_changes {wr : Bool} {s y : State} (v : VoiceId) (hy : Changes wr s y) :
    Changes wr s (forgetDrift v y) := by
  unfold forgetDrift
  repeat' first
    | with_reducible exact hy | with_reducible assumption | (exact fun _ => rfl) | (exact fun _ => ⟨rfl, rfl⟩)
    | (exact rfl) | (exact Or.inl (Nat.le_refl _)) | (intro _) | with_reducible apply tuner_c | split | dsimp only

theorem replaceRecord_changes {wr : Bool} {s y : State} (v : VoiceId) (src : Source) (r : CalRecord)
    (hy : Changes wr s y) :
    Changes wr s (replaceRecord v src r y) := by
  unfold replaceRecord
  repeat' first
    | with_reducible exact hy | with_reducible assumption | (exact fun _ => rfl) | (exact fun _ => ⟨rfl, rfl⟩)
    | (exact rfl) | (exact Or.inl (Nat.le_refl _)) | (intro _) | with_reducible apply computeVoice_changes
    | with_reducible apply followFilter_changes | with_reducible apply benchAfterWrite_changes
    | with_reducible apply storeRecord_changes | with_reducible apply forgetDrift_changes | split | dsimp only

theorem voidBySignal_changes {wr : Bool} {s y : State} (v : VoiceId) (src : Source) (hy : Changes wr s y) :
    Changes wr s (voidBySignal v src y) := by
  unfold voidBySignal
  repeat' first
    | with_reducible exact hy | with_reducible assumption | (exact fun _ => rfl) | (exact fun _ => ⟨rfl, rfl⟩)
    | (exact rfl) | (exact Or.inl (Nat.le_refl _)) | (intro _) | with_reducible apply replaceRecord_changes | split
    | dsimp only

theorem beginMeasure_changes {wr : Bool} {s y : State} (v : VoiceId) (src : Source) (code : Word) (w : Nat)
    (hy : Changes wr s y) :
    Changes wr s (beginMeasure v src code w y) := by
  unfold beginMeasure
  repeat' first
    | with_reducible exact hy | with_reducible assumption | (exact fun _ => rfl) | (exact fun _ => ⟨rfl, rfl⟩)
    | (exact rfl) | (exact Or.inl (Nat.le_refl _)) | (intro _) | with_reducible apply setSlot_changes
    | with_reducible apply tuner_c | split | dsimp only

theorem stopMeasure_changes {wr : Bool} {s y : State} (hy : Changes wr s y) :
    Changes wr s (stopMeasure y) := by
  unfold stopMeasure
  repeat' first
    | with_reducible exact hy | with_reducible assumption | (exact fun _ => rfl) | (exact fun _ => ⟨rfl, rfl⟩)
    | (exact rfl) | (exact Or.inl (Nat.le_refl _)) | (intro _) | with_reducible apply tuner_c | split | dsimp only

theorem modRun_changes {wr : Bool} {s y : State} (f : Run → Run) (hy : Changes wr s y) :
    Changes wr s (modRun f y) := by
  unfold modRun
  repeat' first
    | with_reducible exact hy | with_reducible assumption | (exact fun _ => rfl) | (exact fun _ => ⟨rfl, rfl⟩)
    | (exact rfl) | (exact Or.inl (Nat.le_refl _)) | (intro _) | with_reducible apply tuner_c | split | dsimp only

theorem setJob_changes {wr : Bool} {s y : State} (j : Option SourceJob) (hy : Changes wr s y) :
    Changes wr s (setJob j y) := by
  unfold setJob
  repeat' first
    | with_reducible exact hy | with_reducible assumption | (exact fun _ => rfl) | (exact fun _ => ⟨rfl, rfl⟩)
    | (exact rfl) | (exact Or.inl (Nat.le_refl _)) | (intro _) | with_reducible apply tuner_c | split | dsimp only

theorem voiceTunedNotice_changes {wr : Bool} {s y : State} (v : VoiceId) (hy : Changes wr s y) :
    Changes wr s (voiceTunedNotice v y) := by
  unfold voiceTunedNotice
  repeat' first
    | with_reducible exact hy | with_reducible assumption | (exact fun _ => rfl) | (exact fun _ => ⟨rfl, rfl⟩)
    | (exact rfl) | (exact Or.inl (Nat.le_refl _)) | (intro _) | with_reducible apply offerNotice_changes | split
    | dsimp only

theorem retuneMoment_changes {wr : Bool} {s y : State} (hy : Changes wr s y) :
    Changes wr s (retuneMoment y) := by
  unfold retuneMoment
  repeat' first
    | with_reducible exact hy | with_reducible assumption | (exact fun _ => rfl) | (exact fun _ => ⟨rfl, rfl⟩)
    | (exact rfl) | (exact Or.inl (Nat.le_refl _)) | (intro _) | with_reducible apply tuner_c | split | dsimp only

theorem endRun_changes {wr : Bool} {s y : State} (r : Run) (hy : Changes wr s y) :
    Changes wr s (endRun r y) := by
  unfold endRun
  repeat' first
    | with_reducible exact hy | with_reducible assumption | (exact fun _ => rfl) | (exact fun _ => ⟨rfl, rfl⟩)
    | (exact rfl) | (exact Or.inl (Nat.le_refl _)) | (intro _) | with_reducible apply offerNotice_changes
    | with_reducible apply retuneMoment_changes | with_reducible apply tuner_c | split | dsimp only

theorem endRunIfDone_changes {wr : Bool} {s y : State} (hy : Changes wr s y) :
    Changes wr s (endRunIfDone y) := by
  unfold endRunIfDone
  repeat' first
    | with_reducible exact hy | with_reducible assumption | (exact fun _ => rfl) | (exact fun _ => ⟨rfl, rfl⟩)
    | (exact rfl) | (exact Or.inl (Nat.le_refl _)) | (intro _) | with_reducible apply endRun_changes | split
    | dsimp only

theorem endVoice_changes {wr : Bool} {s y : State} (v : VoiceId) (hy : Changes wr s y) :
    Changes wr s (endVoice v y) := by
  unfold endVoice
  repeat' first
    | with_reducible exact hy | with_reducible assumption | (exact fun _ => rfl) | (exact fun _ => ⟨rfl, rfl⟩)
    | (exact rfl) | (exact Or.inl (Nat.le_refl _)) | (intro _) | with_reducible apply placeTune_changes
    | with_reducible apply settleVoice_changes | with_reducible apply modRun_changes
    | with_reducible apply setJob_changes | with_reducible apply voiceTunedNotice_changes
    | with_reducible apply endRunIfDone_changes | split | dsimp only

theorem measureJob_changes {wr : Bool} {s y : State} (j : SourceJob) (hy : Changes wr s y) :
    Changes wr s (measureJob j y) := by
  unfold measureJob
  repeat' first
    | with_reducible exact hy | with_reducible assumption | (exact fun _ => rfl) | (exact fun _ => ⟨rfl, rfl⟩)
    | (exact rfl) | (exact Or.inl (Nat.le_refl _)) | (intro _) | with_reducible apply beginMeasure_changes
    | with_reducible apply setJob_changes | split | dsimp only

theorem beginBreakpoint_changes {wr : Bool} {s y : State} (i : Nat) (j : SourceJob) (hy : Changes wr s y) :
    Changes wr s (beginBreakpoint i j y) := by
  unfold beginBreakpoint
  repeat' first
    | with_reducible exact hy | with_reducible assumption | (exact fun _ => rfl) | (exact fun _ => ⟨rfl, rfl⟩)
    | (exact rfl) | (exact Or.inl (Nat.le_refl _)) | (intro _) | with_reducible apply measureJob_changes | split
    | dsimp only

theorem beginSource_changes {wr : Bool} {s y : State} (v : VoiceId) (src : Source) (hy : Changes wr s y) :
    Changes wr s (beginSource v src y) := by
  unfold beginSource
  repeat' first
    | with_reducible exact hy | with_reducible assumption | (exact fun _ => rfl) | (exact fun _ => ⟨rfl, rfl⟩)
    | (exact rfl) | (exact Or.inl (Nat.le_refl _)) | (intro _) | with_reducible apply placeTune_changes
    | with_reducible apply beginBreakpoint_changes | split | dsimp only

theorem nextSource_changes {wr : Bool} {s y : State} (v : VoiceId) (src : Source) (hy : Changes wr s y) :
    Changes wr s (nextSource v src y) := by
  unfold nextSource
  repeat' first
    | with_reducible exact hy | with_reducible assumption | (exact fun _ => rfl) | (exact fun _ => ⟨rfl, rfl⟩)
    | (exact rfl) | (exact Or.inl (Nat.le_refl _)) | (intro _) | with_reducible apply endVoice_changes
    | with_reducible apply beginSource_changes | split | dsimp only

theorem failRecord_changes {wr : Bool} {s y : State} (j : SourceJob) (x : LastResult) (hy : Changes wr s y) :
    Changes wr s (failRecord j x y) := by
  unfold failRecord
  repeat' first
    | with_reducible exact hy | with_reducible assumption | (exact fun _ => rfl) | (exact fun _ => ⟨rfl, rfl⟩)
    | (exact rfl) | (exact Or.inl (Nat.le_refl _)) | (intro _) | with_reducible apply setLastResult_changes
    | with_reducible apply voidBySignal_changes | split | dsimp only

theorem failSource_changes {wr : Bool} {s y : State} (j : SourceJob) (x : LastResult) (hy : Changes wr s y) :
    Changes wr s (failSource j x y) := by
  unfold failSource
  repeat' first
    | with_reducible exact hy | with_reducible assumption | (exact fun _ => rfl) | (exact fun _ => ⟨rfl, rfl⟩)
    | (exact rfl) | (exact Or.inl (Nat.le_refl _)) | (intro _) | with_reducible apply bump_changes
    | with_reducible apply modRun_changes | with_reducible apply nextSource_changes
    | with_reducible apply failRecord_changes | split | dsimp only

theorem completeSource_changes {wr : Bool} {s y : State} (j : SourceJob) (hy : Changes wr s y) :
    Changes wr s (completeSource j y) := by
  unfold completeSource
  repeat' first
    | with_reducible exact hy | with_reducible assumption | (exact fun _ => rfl) | (exact fun _ => ⟨rfl, rfl⟩)
    | (exact rfl) | (exact Or.inl (Nat.le_refl _)) | (intro _) | with_reducible apply bump_changes
    | with_reducible apply replaceRecord_changes | with_reducible apply modRun_changes
    | with_reducible apply nextSource_changes | with_reducible apply failSource_changes | split | dsimp only

theorem passBreakpoint_changes {wr : Bool} {s y : State} (j : SourceJob) (hy : Changes wr s y) :
    Changes wr s (passBreakpoint j y) := by
  unfold passBreakpoint
  repeat' first
    | with_reducible exact hy | with_reducible assumption | (exact fun _ => rfl) | (exact fun _ => ⟨rfl, rfl⟩)
    | (exact rfl) | (exact Or.inl (Nat.le_refl _)) | (intro _) | with_reducible apply beginBreakpoint_changes
    | with_reducible apply completeSource_changes | split | dsimp only

theorem adjust_changes {wr : Bool} {s y : State} (up : Bool) (j : SourceJob) (hy : Changes wr s y) :
    Changes wr s (adjust up j y) := by
  unfold adjust
  repeat' first
    | with_reducible exact hy | with_reducible assumption | (exact fun _ => rfl) | (exact fun _ => ⟨rfl, rfl⟩)
    | (exact rfl) | (exact Or.inl (Nat.le_refl _)) | (intro _) | with_reducible apply measureJob_changes | split
    | dsimp only

theorem adjusted_changes {wr : Bool} {s y : State} (j : SourceJob) (o : MeasOutcome) (hy : Changes wr s y) :
    Changes wr s (adjusted j o y) := by
  unfold adjusted
  repeat' first
    | with_reducible exact hy | with_reducible assumption | (exact fun _ => rfl) | (exact fun _ => ⟨rfl, rfl⟩)
    | (exact rfl) | (exact Or.inl (Nat.le_refl _)) | (intro _) | with_reducible apply failSource_changes
    | with_reducible apply passBreakpoint_changes | with_reducible apply adjust_changes | split | dsimp only

theorem verified_changes {wr : Bool} {s y : State} (j : SourceJob) (o : MeasOutcome) (hy : Changes wr s y) :
    Changes wr s (verified j o y) := by
  unfold verified
  repeat' first
    | with_reducible exact hy | with_reducible assumption | (exact fun _ => rfl) | (exact fun _ => ⟨rfl, rfl⟩)
    | (exact rfl) | (exact Or.inl (Nat.le_refl _)) | (intro _) | with_reducible apply failSource_changes
    | with_reducible apply passBreakpoint_changes | split | dsimp only

theorem abandonCheck_changes {wr : Bool} {s y : State} (hy : Changes wr s y) :
    Changes wr s (abandonCheck y) := by
  unfold abandonCheck
  repeat' first
    | with_reducible exact hy | with_reducible assumption | (exact fun _ => rfl) | (exact fun _ => ⟨rfl, rfl⟩)
    | (exact rfl) | (exact Or.inl (Nat.le_refl _)) | (intro _) | with_reducible apply placeTune_changes
    | with_reducible apply settleVoice_changes | with_reducible apply stopMeasure_changes
    | with_reducible apply tuner_c | split | dsimp only

theorem startRun_changes {wr : Bool} {s y : State} (origin : RunOrigin) (mode : RunMode) (voices : VoiceSet) (sources : BitVec 3)
    (hy : Changes wr s y) :
    Changes wr s (startRun origin mode voices sources y) := by
  unfold startRun
  repeat' first
    | with_reducible exact hy | with_reducible assumption | (exact fun _ => rfl) | (exact fun _ => ⟨rfl, rfl⟩)
    | (exact rfl) | (exact Or.inl (Nat.le_refl _)) | (intro _) | with_reducible apply forEach_changes
    | with_reducible apply forceClaim_changes | with_reducible apply tuner_c | split | dsimp only

theorem abortSource_changes {wr : Bool} {s y : State} (hy : Changes wr s y) :
    Changes wr s (abortSource y) := by
  unfold abortSource
  repeat' first
    | with_reducible exact hy | with_reducible assumption | (exact fun _ => rfl) | (exact fun _ => ⟨rfl, rfl⟩)
    | (exact rfl) | (exact Or.inl (Nat.le_refl _)) | (intro _) | with_reducible apply setLastResult_changes
    | with_reducible apply stopMeasure_changes | with_reducible apply setJob_changes | split | dsimp only

theorem releaseMeasured_changes {wr : Bool} {s y : State} (j : Option SourceJob) (hy : Changes wr s y) :
    Changes wr s (releaseMeasured j y) := by
  unfold releaseMeasured
  repeat' first
    | with_reducible exact hy | with_reducible assumption | (exact fun _ => rfl) | (exact fun _ => ⟨rfl, rfl⟩)
    | (exact rfl) | (exact Or.inl (Nat.le_refl _)) | (intro _) | with_reducible apply placeTune_changes
    | with_reducible apply voiceTunedNotice_changes | split | dsimp only

theorem cancelTuners_changes {wr : Bool} {s y : State} (hy : Changes wr s y) :
    Changes wr s (cancelTuners y) := by
  unfold cancelTuners
  repeat' first
    | with_reducible exact hy | with_reducible assumption | (exact fun _ => rfl) | (exact fun _ => ⟨rfl, rfl⟩)
    | (exact rfl) | (exact Or.inl (Nat.le_refl _)) | (intro _) | with_reducible apply forEach_changes
    | with_reducible apply cancelPending_changes | split | dsimp only

theorem abortRun_changes {wr : Bool} {s y : State} (hy : Changes wr s y) :
    Changes wr s (abortRun y) := by
  unfold abortRun
  repeat' first
    | with_reducible exact hy | with_reducible assumption | (exact fun _ => rfl) | (exact fun _ => ⟨rfl, rfl⟩)
    | (exact rfl) | (exact Or.inl (Nat.le_refl _)) | (intro _) | with_reducible apply forEach_changes
    | with_reducible apply offerNotice_changes | with_reducible apply settleVoice_changes
    | with_reducible apply abortSource_changes | with_reducible apply releaseMeasured_changes
    | with_reducible apply cancelTuners_changes | with_reducible apply tuner_c | split | dsimp only

theorem reportMeasured_changes {wr : Bool} {s y : State} (j : Option SourceJob) (hy : Changes wr s y) :
    Changes wr s (reportMeasured j y) := by
  unfold reportMeasured
  repeat' first
    | with_reducible exact hy | with_reducible assumption | (exact fun _ => rfl) | (exact fun _ => ⟨rfl, rfl⟩)
    | (exact rfl) | (exact Or.inl (Nat.le_refl _)) | (intro _) | with_reducible apply voiceTunedNotice_changes | split
    | dsimp only

theorem reportAborted_changes {wr : Bool} {s y : State} (r : Option Run) (hy : Changes wr s y) :
    Changes wr s (reportAborted r y) := by
  unfold reportAborted
  repeat' first
    | with_reducible exact hy | with_reducible assumption | (exact fun _ => rfl) | (exact fun _ => ⟨rfl, rfl⟩)
    | (exact rfl) | (exact Or.inl (Nat.le_refl _)) | (intro _) | with_reducible apply offerNotice_changes | split
    | dsimp only

theorem abortForReset_changes {wr : Bool} {s y : State} (hy : Changes wr s y) :
    Changes wr s (abortForReset y) := by
  unfold abortForReset
  repeat' first
    | with_reducible exact hy | with_reducible assumption | (exact fun _ => rfl) | (exact fun _ => ⟨rfl, rfl⟩)
    | (exact rfl) | (exact Or.inl (Nat.le_refl _)) | (intro _) | with_reducible apply abortSource_changes
    | with_reducible apply reportMeasured_changes | with_reducible apply reportAborted_changes
    | with_reducible apply tuner_c | split | dsimp only

theorem claimFree_changes {wr : Bool} {s y : State} (v : VoiceId) (hy : Changes wr s y) :
    Changes wr s (claimFree v y) := by
  unfold claimFree
  repeat' first
    | with_reducible exact hy | with_reducible assumption | (exact fun _ => rfl) | (exact fun _ => ⟨rfl, rfl⟩)
    | (exact rfl) | (exact Or.inl (Nat.le_refl _)) | (intro _) | with_reducible apply enterTuning_changes | split
    | dsimp only

theorem beginVoice_changes {wr : Bool} {s y : State} (v : VoiceId) (hy : Changes wr s y) :
    Changes wr s (beginVoice v y) := by
  unfold beginVoice
  repeat' first
    | with_reducible exact hy | with_reducible assumption | (exact fun _ => rfl) | (exact fun _ => ⟨rfl, rfl⟩)
    | (exact rfl) | (exact Or.inl (Nat.le_refl _)) | (intro _) | with_reducible apply modRun_changes
    | with_reducible apply beginSource_changes | with_reducible apply claimFree_changes | split | dsimp only

theorem beginCheck_changes {wr : Bool} {s y : State} (v : VoiceId) (hy : Changes wr s y) :
    Changes wr s (beginCheck v y) := by
  unfold beginCheck
  repeat' first
    | with_reducible exact hy | with_reducible assumption | (exact fun _ => rfl) | (exact fun _ => ⟨rfl, rfl⟩)
    | (exact rfl) | (exact Or.inl (Nat.le_refl _)) | (intro _) | with_reducible apply placeTune_changes
    | with_reducible apply enterTuning_changes | with_reducible apply beginMeasure_changes
    | with_reducible apply tuner_c | split | dsimp only

theorem setDriftCount_changes {wr : Bool} {s y : State} (v : VoiceId) (n : Nat) (hy : Changes wr s y) :
    Changes wr s (setDriftCount v n y) := by
  unfold setDriftCount
  repeat' first
    | with_reducible exact hy | with_reducible assumption | (exact fun _ => rfl) | (exact fun _ => ⟨rfl, rfl⟩)
    | (exact rfl) | (exact Or.inl (Nat.le_refl _)) | (intro _) | with_reducible apply tuner_c | split | dsimp only

theorem joinRetune_changes {wr : Bool} {s y : State} (v : VoiceId) (hy : Changes wr s y) :
    Changes wr s (joinRetune v y) := by
  unfold joinRetune
  repeat' first
    | with_reducible exact hy | with_reducible assumption | (exact fun _ => rfl) | (exact fun _ => ⟨rfl, rfl⟩)
    | (exact rfl) | (exact Or.inl (Nat.le_refl _)) | (intro _) | with_reducible apply retuneMoment_changes
    | with_reducible apply tuner_c | split | dsimp only

theorem judgeDrift_changes {wr : Bool} {s y : State} (c : DriftCheck) (err : Nat) (hy : Changes wr s y) :
    Changes wr s (judgeDrift c err y) := by
  unfold judgeDrift
  repeat' first
    | with_reducible exact hy | with_reducible assumption | (exact fun _ => rfl) | (exact fun _ => ⟨rfl, rfl⟩)
    | (exact rfl) | (exact Or.inl (Nat.le_refl _)) | (intro _) | with_reducible apply bump_changes
    | with_reducible apply offerNotice_changes | with_reducible apply setDriftCount_changes
    | with_reducible apply joinRetune_changes | split | dsimp only

theorem returnChecked_changes {wr : Bool} {s y : State} (c : DriftCheck) (hy : Changes wr s y) :
    Changes wr s (returnChecked c y) := by
  unfold returnChecked
  repeat' first
    | with_reducible exact hy | with_reducible assumption | (exact fun _ => rfl) | (exact fun _ => ⟨rfl, rfl⟩)
    | (exact rfl) | (exact Or.inl (Nat.le_refl _)) | (intro _) | with_reducible apply placeTune_changes
    | with_reducible apply settleVoice_changes | with_reducible apply tuner_c | split | dsimp only

theorem endCheck_changes {wr : Bool} {s y : State} (c : DriftCheck) (o : MeasOutcome) (hy : Changes wr s y) :
    Changes wr s (endCheck c o y) := by
  unfold endCheck
  repeat' first
    | with_reducible exact hy | with_reducible assumption | (exact fun _ => rfl) | (exact fun _ => ⟨rfl, rfl⟩)
    | (exact rfl) | (exact Or.inl (Nat.le_refl _)) | (intro _) | with_reducible apply voidBySignal_changes
    | with_reducible apply judgeDrift_changes | with_reducible apply returnChecked_changes | split | dsimp only

theorem endJobMeasure_changes {wr : Bool} {s y : State} (j : SourceJob) (o : MeasOutcome) (hy : Changes wr s y) :
    Changes wr s (endJobMeasure j o y) := by
  unfold endJobMeasure
  repeat' first
    | with_reducible exact hy | with_reducible assumption | (exact fun _ => rfl) | (exact fun _ => ⟨rfl, rfl⟩)
    | (exact rfl) | (exact Or.inl (Nat.le_refl _)) | (intro _) | with_reducible apply adjusted_changes
    | with_reducible apply verified_changes | split | dsimp only

theorem takeOutcome_changes {wr : Bool} {s y : State} (o : MeasOutcome) (hy : Changes wr s y) :
    Changes wr s (takeOutcome o y) := by
  unfold takeOutcome
  repeat' first
    | with_reducible exact hy | with_reducible assumption | (exact fun _ => rfl) | (exact fun _ => ⟨rfl, rfl⟩)
    | (exact rfl) | (exact Or.inl (Nat.le_refl _)) | (intro _) | with_reducible apply stopMeasure_changes
    | with_reducible apply endCheck_changes | with_reducible apply endJobMeasure_changes | split | dsimp only

theorem writeTuneConfig_changes {s t : State} (c : TuneConfig) (h : Changes true s t) : Changes true s (writeTuneConfig c t) := by
  have h1 : Changes true s (t.withTuner { t.tuner with
      cfg := c, driftTimer := driftAtWrite t.tuner.cfg.driftPeriod c.driftPeriod t.tuner.driftTimer
      retuneDue := t.tuner.retuneDue && c.autoRetune }) := tuner_c h nofun
  unfold writeTuneConfig
  dsimp only
  split
  · exact retuneMoment_changes h1
  · exact h1

theorem writeTarget_changes {s t : State} (i : Fin 17) (x : Target) (h : Changes true s t) : Changes true s (writeTarget i x t) :=
  tuner_c h nofun

theorem writeCal_changes {wr : Bool} {s y : State} (i : Fin 48) (r : CalRecord) (hy : Changes wr s y) :
    Changes wr s (writeCal i r y) := by
  unfold writeCal
  repeat' first
    | with_reducible exact hy | with_reducible assumption | (exact fun _ => rfl) | (exact fun _ => ⟨rfl, rfl⟩)
    | (exact rfl) | (exact Or.inl (Nat.le_refl _)) | (intro _) | with_reducible apply replaceRecord_changes | split
    | dsimp only

theorem startCount_changes {wr : Bool} {s y : State} (m : Measurement) (hy : Changes wr s y) :
    Changes wr s (startCount m y) := by
  unfold startCount
  repeat' first
    | with_reducible exact hy | with_reducible assumption | (exact fun _ => rfl) | (exact fun _ => ⟨rfl, rfl⟩)
    | (exact rfl) | (exact Or.inl (Nat.le_refl _)) | (intro _) | with_reducible apply tuner_c | split | dsimp only

theorem countEdge_changes {wr : Bool} {s y : State} (m : Measurement) (n : Nat) (hy : Changes wr s y) :
    Changes wr s (countEdge m n y) := by
  unfold countEdge
  repeat' first
    | with_reducible exact hy | with_reducible assumption | (exact fun _ => rfl) | (exact fun _ => ⟨rfl, rfl⟩)
    | (exact rfl) | (exact Or.inl (Nat.le_refl _)) | (intro _) | with_reducible apply takeOutcome_changes
    | with_reducible apply tuner_c | split | dsimp only

theorem lookForDrift_changes {wr : Bool} {s y : State} (hy : Changes wr s y) :
    Changes wr s (lookForDrift y) := by
  unfold lookForDrift
  repeat' first
    | with_reducible exact hy | with_reducible assumption | (exact fun _ => rfl) | (exact fun _ => ⟨rfl, rfl⟩)
    | (exact rfl) | (exact Or.inl (Nat.le_refl _)) | (intro _) | with_reducible apply beginCheck_changes | split
    | dsimp only

theorem huntBytes_changes {wr : Bool} {s y : State} (bytes : List RxByte) (hy : Changes wr s y) :
    Changes wr s (huntBytes bytes y) := by
  unfold huntBytes
  repeat' first
    | with_reducible exact hy | with_reducible assumption | (exact fun _ => rfl) | (exact fun _ => ⟨rfl, rfl⟩)
    | (exact rfl) | (exact Or.inl (Nat.le_refl _)) | (intro _) | with_reducible apply link_c | split | dsimp only

theorem reportLock_changes {wr : Bool} {s y : State} (entering : Bool) (hy : Changes wr s y) :
    Changes wr s (reportLock entering y) := by
  unfold reportLock
  repeat' first
    | with_reducible exact hy | with_reducible assumption | (exact fun _ => rfl) | (exact fun _ => ⟨rfl, rfl⟩)
    | (exact rfl) | (exact Or.inl (Nat.le_refl _)) | (intro _) | with_reducible apply offerNotice_changes
    | with_reducible apply link_c | split | dsimp only

theorem acceptFrame_changes {wr : Bool} {s y : State} (n : Nat) (hy : Changes wr s y) :
    Changes wr s (acceptFrame n y) := by
  unfold acceptFrame
  repeat' first
    | with_reducible exact hy | with_reducible assumption | (exact fun _ => rfl) | (exact fun _ => ⟨rfl, rfl⟩)
    | (exact rfl) | (exact Or.inl (Nat.le_refl _)) | (intro _) | with_reducible apply bump_changes
    | with_reducible apply reportLock_changes | with_reducible apply link_c | split | dsimp only

theorem receive_changes {w : Bool} {s t : State} {f : Frame} {taken : State → State} (h : Changes w s t)
    (k : ∀ u, Changes w s u → Changes w s (taken u)) : Changes w s (receive f taken t) := by
  unfold receive
  split
  · exact huntBytes_changes _ h
  all_goals exact k _ (acceptFrame_changes _ h)

theorem event_changes {w : Bool} {s t : State} {taken : State → State} (h : Changes w s t)
    (k : Changes w s t → Changes w s (taken t)) : Changes w s (event taken t) := by
  unfold event
  split
  · exact k h
  · exact h

theorem loseLock_changes {wr : Bool} {s y : State} (hy : Changes wr s y) :
    Changes wr s (loseLock y) := by
  unfold loseLock
  repeat' first
    | with_reducible exact hy | with_reducible assumption | (exact fun _ => rfl) | (exact fun _ => ⟨rfl, rfl⟩)
    | (exact rfl) | (exact Or.inl (Nat.le_refl _)) | (intro _) | with_reducible apply bump_changes
    | with_reducible apply link_c | split | dsimp only

theorem rejectFrame_changes {wr : Bool} {s y : State} (n : Nat) (hy : Changes wr s y) :
    Changes wr s (rejectFrame n y) := by
  unfold rejectFrame
  repeat' first
    | with_reducible exact hy | with_reducible assumption | (exact fun _ => rfl) | (exact fun _ => ⟨rfl, rfl⟩)
    | (exact rfl) | (exact Or.inl (Nat.le_refl _)) | (intro _) | with_reducible apply bump_changes
    | with_reducible apply loseLock_changes | with_reducible apply link_c | split | dsimp only

theorem abandonFrame_changes {wr : Bool} {s y : State} (bytes : List RxByte) (hy : Changes wr s y) :
    Changes wr s (abandonFrame bytes y) := by
  unfold abandonFrame
  repeat' first
    | with_reducible exact hy | with_reducible assumption | (exact fun _ => rfl) | (exact fun _ => ⟨rfl, rfl⟩)
    | (exact rfl) | (exact Or.inl (Nat.le_refl _)) | (intro _) | with_reducible apply rejectFrame_changes
    | with_reducible apply link_c | split | dsimp only

theorem dropRequest_changes {wr : Bool} {s y : State} (hy : Changes wr s y) :
    Changes wr s (dropRequest y) := by
  unfold dropRequest
  repeat' first
    | with_reducible exact hy | with_reducible assumption | (exact fun _ => rfl) | (exact fun _ => ⟨rfl, rfl⟩)
    | (exact rfl) | (exact Or.inl (Nat.le_refl _)) | (intro _) | with_reducible apply bump_changes
    | with_reducible apply offerNotice_changes | with_reducible apply link_c | split | dsimp only

theorem queueRequest_changes {w : Bool} {s t : State} (f : Frame) (h : Changes w s t) : Changes w s (queueRequest f t) := by
  unfold queueRequest
  split
  · next hr => exact .snoc h (.queue f hr)
  · exact dropRequest_changes h

theorem refill_changes {w : Bool} {s t : State} (c : ControlId) (h : Changes w s t) (k : t.link.notices.length < Config.noticeCap) :
    Changes w s (refill c t) := by
  exact .snoc (.snoc h (.refill { t.link with
    notices := t.link.notices ++ [refillNotice t c], missed := setMissed t.link.missed c false,
    refillsDue := t.link.refillsDue - 1 } _ k rfl rfl rfl)) .start

theorem endOutbound_changes {w : Bool} {s t : State} (h : Changes w s t) : Changes w s (endOutbound t) :=
  .snoc (link_c (l := { t.link with line := none, idleTimer := some (ms 100) }) h rfl rfl rfl) .start

theorem silenceAction_changes {w : Bool} {s t : State} (h : Changes w s t) : Changes w s (silenceAction t) := by
  have h1 : Changes w s (offerNotice .silence (bump .silences (forEach allParts partAllOff t))) :=
    offerNotice_changes (bump_changes (forEach_changes h (fun p u => partAllOff_changes p)))
  unfold silenceAction
  dsimp only
  generalize offerNotice .silence (bump .silences (forEach allParts partAllOff t)) = u at h1
  exact link_c h1 rfl rfl rfl

theorem resetAll_changes {s t : State} (h : Changes true s t) : Changes true s (resetAll t) :=
  .snoc (.snoc (cutPage_changes t.freeCount h) (.restart rfl)) (.free _)

theorem holdReset_changes {s t : State} (h : Changes true s t) : Changes true s (holdReset t) :=
  .snoc (store_c (x := { t.store with queue := [] }) h nofun rfl rfl (.inr (by simp))) (.hold true)

theorem releaseReset_changes {w : Bool} {s t : State} (h : Changes w s t) : Changes w s (releaseReset t) :=
  .snoc (link_c (l := { t.link with idleTimer := some (ms 100) })
    (store_c (x := { t.store with queue := Store.powerOn.queue }) h (fun _ => rfl) rfl rfl (.inr (Nat.le_of_ble_eq_true rfl))) rfl rfl rfl) (.hold false)

theorem loadTables_changes {s t : State} (r : SetupRead) (h : Changes true s t) : Changes true s (loadTables r t) := by
  have h1 := router_c (x := { t.router with zones := r.zones.getD t.router.zones, parts := r.parts.getD t.router.parts }) h nofun rfl rfl
  have h2 := pitch_c (x := { t.pitch with scale := r.scale.getD t.pitch.scale }) h1 nofun
  have h3 := params_c (x := { t.params with desc := r.desc.getD t.params.desc }) h2 nofun (.inl (Nat.le_refl _))
  have h4 := panel_c (x := { t.panel with
    scanMap := r.scanMap.getD t.panel.scanMap, controls := r.controls.getD t.panel.controls }) h3 nofun
  have h5 := store_c (x := { t.store with options := r.options.getD t.store.options }) h4 nofun rfl rfl (.inl (Nat.le_refl _))
  exact tuner_c (x := { t.tuner with target := r.target.getD t.tuner.target, cfg := r.cfg.getD t.tuner.cfg }) h5 nofun

theorem clampInit_changes {wr : Bool} {s y : State} (hy : Changes wr s y) :
    Changes wr s (clampInit y) := by
  unfold clampInit
  repeat' first
    | with_reducible exact hy | with_reducible assumption | (exact fun _ => rfl) | (exact fun _ => ⟨rfl, rfl⟩)
    | (exact rfl) | (exact Or.inl (Nat.le_refl _)) | (intro _) | with_reducible apply params_c | split | dsimp only

theorem setSetupResult_changes {wr : Bool} {s y : State} (r : SetupResult) (tables : BitVec 24) (hy : Changes wr s y) :
    Changes wr s (setSetupResult r tables y) := by
  unfold setSetupResult
  repeat' first
    | with_reducible exact hy | with_reducible assumption | (exact fun _ => rfl) | (exact fun _ => ⟨rfl, rfl⟩)
    | (exact rfl) | (exact Or.inl (Nat.le_refl _)) | (intro _) | with_reducible apply store_c | split | dsimp only

theorem loadSetup_changes {s y : State} (b : List Byte) (hy : Changes true s y) :
    Changes true s (loadSetup b y) := by
  unfold loadSetup
  repeat' first
    | with_reducible exact hy | with_reducible assumption | (exact fun _ => rfl) | (exact fun _ => ⟨rfl, rfl⟩)
    | (exact rfl) | (exact Or.inl (Nat.le_refl _)) | (intro _) | with_reducible apply loadTables_changes
    | with_reducible apply clampInit_changes | with_reducible apply setSetupResult_changes | split | dsimp only

theorem setPhase_changes {wr : Bool} {s y : State} (p : Phase) (hy : Changes wr s y) :
    Changes wr s (setPhase p y) := by
  unfold setPhase
  repeat' first
    | with_reducible exact hy | with_reducible assumption | (exact fun _ => rfl) | (exact fun _ => ⟨rfl, rfl⟩)
    | (exact rfl) | (exact Or.inl (Nat.le_refl _)) | (intro _) | with_reducible apply req_c | split | dsimp only

theorem loadRecords_changes {wr : Bool} {s y : State} (x : Option (Vector CalRecord 48)) (hy : Changes wr s y) :
    Changes wr s (loadRecords x y) := by
  unfold loadRecords
  repeat' first
    | with_reducible exact hy | with_reducible assumption | (exact fun _ => rfl) | (exact fun _ => ⟨rfl, rfl⟩)
    | (exact rfl) | (exact Or.inl (Nat.le_refl _)) | (intro _) | with_reducible apply tuner_c | split | dsimp only

theorem placeAtStart_changes {wr : Bool} {s y : State} (v : VoiceId) (hy : Changes wr s y) :
    Changes wr s (placeAtStart v y) := by
  unfold placeAtStart
  repeat' first
    | with_reducible exact hy | with_reducible assumption | (exact fun _ => rfl) | (exact fun _ => ⟨rfl, rfl⟩)
    | (exact rfl) | (exact Or.inl (Nat.le_refl _)) | (intro _) | with_reducible apply setBenchReason_changes
    | with_reducible apply enterIdle_changes | with_reducible apply voice_c | split | dsimp only

theorem loadCalibration_changes {w : Bool} {s t : State} (b : List Byte) (h : Changes w s t) :
    Changes w s (loadCalibration b t) := by
  have h1 : ∀ x, Changes w s (forEach allVoices (fun v s => placeAtStart v (followFilter v s)) (loadRecords x t)) :=
    fun x => forEach_changes (loadRecords_changes x h) (fun v u hu => placeAtStart_changes v (followFilter_changes v hu))
  unfold loadCalibration
  dsimp only
  generalize (if t.store.options.loadCal = true then readCal b else none) = x
  specialize h1 x
  generalize forEach allVoices (fun v s => placeAtStart v (followFilter v s)) (loadRecords x t) = u at h1
  exact store_c h1 (fun _ => rfl) rfl rfl (.inl (Nat.le_refl _))

theorem startRecall_changes {w : Bool} {s t : State} (p : PartId) (h : Changes w s t) : Changes w s (startRecall p t) := by
  unfold startRecall
  split
  · next k => exact joinStore_changes h k
  · exact h

theorem startRecalls_changes {wr : Bool} {s y : State} (hy : Changes wr s y) :
    Changes wr s (startRecalls y) := by
  unfold startRecalls
  repeat' first
    | with_reducible exact hy | with_reducible assumption | (exact fun _ => rfl) | (exact fun _ => ⟨rfl, rfl⟩)
    | (exact rfl) | (exact Or.inl (Nat.le_refl _)) | (intro _) | with_reducible apply forEach_changes
    | with_reducible apply startRecall_changes | split | dsimp only

theorem startTuning_changes {wr : Bool} {s y : State} (hy : Changes wr s y) :
    Changes wr s (startTuning y) := by
  unfold startTuning
  repeat' first
    | with_reducible exact hy | with_reducible assumption | (exact fun _ => rfl) | (exact fun _ => ⟨rfl, rfl⟩)
    | (exact rfl) | (exact Or.inl (Nat.le_refl _)) | (intro _) | with_reducible apply startRun_changes | split
    | dsimp only

theorem startTimers_changes {w : Bool} {s t : State} (h : Changes w s t) : Changes w s (startTimers t) := by
  have h1 := link_c (l := { t.link with silence := .running (ms 300) }) (startScanTimer_changes h) rfl rfl rfl
  have h2 := pitch_c (x := { t.pitch with glideTimer := some (ms 1) }) h1 (fun _ => rfl)
  exact tuner_c (x := { t.tuner with driftTimer := driftTicks t.tuner.cfg.driftPeriod }) h2 (fun _ => ⟨rfl, rfl⟩)

theorem enterReady_changes {wr : Bool} {s y : State} (hy : Changes wr s y) :
    Changes wr s (enterReady y) := by
  unfold enterReady
  repeat' first
    | with_reducible exact hy | with_reducible assumption | (exact fun _ => rfl) | (exact fun _ => ⟨rfl, rfl⟩)
    | (exact rfl) | (exact Or.inl (Nat.le_refl _)) | (intro _) | with_reducible apply offerNotice_changes
    | with_reducible apply setPhase_changes | with_reducible apply startRecalls_changes
    | with_reducible apply startTuning_changes | with_reducible apply startTimers_changes | split | dsimp only

theorem writeFrom_changes {α : Type} {n : Nat} {s t : State} {f : Fin n → α → State → State} {i : Nat} {xs : List α}
    (h : Changes true s t) (k : ∀ i x u, Changes true s u → Changes true s (f i x u)) : Changes true s (writeFrom f i xs t) := by
  induction xs generalizing i t with
  | nil => exact h
  | cons x xs ih =>
    refine ih ?_
    split
    · exact k _ _ _ h
    · exact h

theorem writeRunOf_changes {α : Type} {n : Nat} {s t u : State} {f : Fin n → α → State → State} {i : Nat} {xs : Option (List α)}
    (h : Changes true s t) (k : ∀ i x u, Changes true s u → Changes true s (f i x u)) (hu : writeRunOf f i xs t = some u) :
    Changes true s u := by
  cases xs with
  | none => cases hu
  | some l => cases hu; exact writeFrom_changes h k

theorem writeZone_changes {s t : State} (k : Fin 8) (z : Zone) (h : Changes true s t) : Changes true s (writeZone k z t) :=
  router_c h nofun rfl rfl

theorem storeScale_changes {s t : State} (k : Fin 48) (x : Int) (h : Changes true s t) : Changes true s (storeScale k x t) :=
  pitch_c h nofun

theorem recomputeScales_changes {wr : Bool} {s y : State} (first n : Nat) (hy : Changes wr s y) :
    Changes wr s (recomputeScales first n y) := by
  unfold recomputeScales
  repeat' first
    | with_reducible exact hy | with_reducible assumption | (exact fun _ => rfl) | (exact fun _ => ⟨rfl, rfl⟩)
    | (exact rfl) | (exact Or.inl (Nat.le_refl _)) | (intro _) | with_reducible apply forEach_changes
    | with_reducible apply computePart_changes | split | dsimp only

theorem writeScales_changes {s t u : State} {first : Nat} {xs : Option (List Int)} (h : Changes true s t)
    (hu : writeScales first xs t = some u) : Changes true s u := by
  cases xs with
  | none => cases hu
  | some l => cases hu; exact recomputeScales_changes _ _ (writeFrom_changes h (fun i x u => storeScale_changes i x))

theorem writeOptions_changes {s t : State} (k : Fin 1) (o : SetupOptions) (h : Changes true s t) : Changes true s (writeOptions k o t) :=
  store_c h nofun rfl rfl (.inl (Nat.le_refl _))

theorem writeEntries_changes {s t u : State} {tb : Table} {first : Nat} {data : List Byte} (h : Changes true s t)
    (hu : writeEntries tb first data t = some u) : Changes true s u := by
  cases tb with
  | zone => exact writeRunOf_changes h (fun i x u => writeZone_changes i x) hu
  | part => exact writeRunOf_changes h (fun i x u => writePart_changes i x) hu
  | scale => exact writeScales_changes h hu
  | param => exact writeRunOf_changes h (fun i x u => writeParam_changes _ _ _) hu
  | name => exact writeRunOf_changes h (fun i x u => writeName_changes i x) hu
  | descriptor => exact writeRunOf_changes h (fun i x u => writeDescriptor_changes i x) hu
  | scanMap => exact writeRunOf_changes h (fun i x u => writeScanEntry_changes i x) hu
  | control => exact writeRunOf_changes h (fun i x u => writeControl_changes i x) hu
  | options => exact writeRunOf_changes h (fun i x u => writeOptions_changes i x) hu
  | calibration => exact writeRunOf_changes h (fun i x u => writeCal_changes i x) hu
  | target => exact writeRunOf_changes h (fun i x u => writeTarget_changes i x) hu
  | tuneConfig => exact writeRunOf_changes h (fun i x u => writeTuneConfig_changes x) hu
  | partState => cases hu
  | held => cases hu
  | voice => cases hu
  | pickup => cases hu
  | controlState => cases hu

theorem writeTable_changes {s t u : State} {tb : Table} {first : Nat} {data : List Byte} (h : Changes true s t)
    (hu : writeTable tb first data t = .ok u) : Changes true s u := by
  unfold writeTable at hu
  split at hu
  · cases hu
  · split at hu
    · cases hu
    · split at hu
      · cases hu
      · next k =>
        split at hu
        · cases hu
        · cases hu; exact writeEntries_changes h k

theorem mergeTable_changes {s t u : State} {tb : Table} {i k : Nat} {keep value : Word} (h : Changes true s t)
    (hu : mergeTable tb i k keep value t = .ok u) : Changes true s u := by
  unfold mergeTable at hu
  split at hu
  · cases hu
  · split at hu
    · cases hu
    · exact writeTable_changes h hu

theorem request_changes {w : Bool} {s t : State} {k : ReqKind} {body : Frame → State → State} (h : Changes w s t)
    (hb : ∀ f, Changes w s t → Changes w s (body f t)) : Changes w s (request k body t) := by
  unfold request
  split
  · split
    · exact hb _ h
    · exact h
  · exact h

theorem checked_changes {w : Bool} {s t : State} {k : ReqKind} {body : List Byte → State → State} {f : Frame} (h : Changes w s t)
    (hb : ∀ p, Changes w s t → Changes w s (body p t)) : Changes w s (checked k body f t) := by
  unfold checked
  split
  · exact answer_changes _ _ h
  · split
    · exact answer_changes _ _ h
    · exact hb _ h

theorem answerOnly_changes {wr : Bool} {s y : State} (r : ResultCode) (hy : Changes wr s y) :
    Changes wr s (answerOnly r y) := by
  unfold answerOnly
  repeat' first
    | with_reducible exact hy | with_reducible assumption | (exact fun _ => rfl) | (exact fun _ => ⟨rfl, rfl⟩)
    | (exact rfl) | (exact Or.inl (Nat.le_refl _)) | (intro _) | with_reducible apply answer_changes | split
    | dsimp only

theorem answerStatus_changes {wr : Bool} {s y : State} (hy : Changes wr s y) :
    Changes wr s (answerStatus y) := by
  unfold answerStatus
  repeat' first
    | with_reducible exact hy | with_reducible assumption | (exact fun _ => rfl) | (exact fun _ => ⟨rfl, rfl⟩)
    | (exact rfl) | (exact Or.inl (Nat.le_refl _)) | (intro _) | with_reducible apply answer_changes
    | with_reducible apply link_c | split | dsimp only

theorem doStatus_changes {wr : Bool} {s y : State} (f : Frame) (hy : Changes wr s y) :
    Changes wr s (doStatus f y) := by
  unfold doStatus
  repeat' first
    | with_reducible exact hy | with_reducible assumption | (exact fun _ => rfl) | (exact fun _ => ⟨rfl, rfl⟩)
    | (exact rfl) | (exact Or.inl (Nat.le_refl _)) | (intro _) | with_reducible apply answerOnly_changes
    | with_reducible apply answerStatus_changes | split | dsimp only

theorem readTable_changes {wr : Bool} {s y : State} (t : Table) (first count : Byte) (hy : Changes wr s y) :
    Changes wr s (readTable t first count y) := by
  unfold readTable
  repeat' first
    | with_reducible exact hy | with_reducible assumption | (exact fun _ => rfl) | (exact fun _ => ⟨rfl, rfl⟩)
    | (exact rfl) | (exact Or.inl (Nat.le_refl _)) | (intro _) | with_reducible apply answer_changes
    | with_reducible apply answerOnly_changes | split | dsimp only

theorem doTableRead_changes {wr : Bool} {s y : State} (payload : List Byte) (hy : Changes wr s y) :
    Changes wr s (doTableRead payload y) := by
  unfold doTableRead
  repeat' first
    | with_reducible exact hy | with_reducible assumption | (exact fun _ => rfl) | (exact fun _ => ⟨rfl, rfl⟩)
    | (exact rfl) | (exact Or.inl (Nat.le_refl _)) | (intro _) | with_reducible apply answerOnly_changes
    | with_reducible apply readTable_changes | split | dsimp only

theorem answerWrite_changes {w : Bool} {s t : State} {x : Except ResultCode State} (h : Changes w s t)
    (k : ∀ u, x = .ok u → Changes w s u) : Changes w s (answerWrite x t) := by
  unfold answerWrite
  split
  · exact answerOnly_changes _ (k _ rfl)
  · exact answerOnly_changes _ h

theorem doTableWrite_changes {s t : State} (payload : List Byte) (h : Changes true s t) :
    Changes true s (doTableWrite payload t) := by
  unfold doTableWrite
  split
  · split
    · exact answerWrite_changes h (fun _ => writeTable_changes h)
    · exact answerOnly_changes _ h
  · exact answerOnly_changes _ h

theorem doTableMerge_changes {s t : State} (payload : List Byte) (h : Changes true s t) :
    Changes true s (doTableMerge payload t) := by
  unfold doTableMerge
  split
  · split
    · exact answerWrite_changes h (fun _ => mergeTable_changes h)
    · exact answerOnly_changes _ h
  · exact answerOnly_changes _ h

theorem answerPlaced_changes {w : Bool} {s t : State} {x : Option State} (h : Changes w s t)
    (k : ∀ u, x = some u → Changes w s u) : Changes w s (answerPlaced x t) := by
  unfold answerPlaced
  split
  · exact answerOnly_changes _ (k _ rfl)
  · exact answerOnly_changes _ h

theorem doPatchRecall_changes {w : Bool} {s t : State} (payload : List Byte) (h : Changes w s t) :
    Changes w s (doPatchRecall payload t) := by
  unfold doPatchRecall
  split
  · split
    · exact answerPlaced_changes h (fun _ => placeRecall_changes h)
    · exact answerOnly_changes _ h
  · exact answerOnly_changes _ h

theorem doPatchStore_changes {w : Bool} {s t : State} (payload : List Byte) (h : Changes w s t) :
    Changes w s (doPatchStore payload t) := by
  unfold doPatchStore
  split
  · split
    · exact answerPlaced_changes h (fun _ => placeStore_changes h)
    · exact answerOnly_changes _ h
  · exact answerOnly_changes _ h

theorem startTune_changes {wr : Bool} {s y : State} (mode : RunMode) (voices : VoiceSet) (sources : BitVec 3)
    (hy : Changes wr s y) :
    Changes wr s (startTune mode voices sources y) := by
  unfold startTune
  repeat' first
    | with_reducible exact hy | with_reducible assumption | (exact fun _ => rfl) | (exact fun _ => ⟨rfl, rfl⟩)
    | (exact rfl) | (exact Or.inl (Nat.le_refl _)) | (intro _) | with_reducible apply abandonCheck_changes
    | with_reducible apply startRun_changes | with_reducible apply answerOnly_changes | split | dsimp only

theorem doTuneStart_changes {wr : Bool} {s y : State} (payload : List Byte) (hy : Changes wr s y) :
    Changes wr s (doTuneStart payload y) := by
  unfold doTuneStart
  repeat' first
    | with_reducible exact hy | with_reducible assumption | (exact fun _ => rfl) | (exact fun _ => ⟨rfl, rfl⟩)
    | (exact rfl) | (exact Or.inl (Nat.le_refl _)) | (intro _) | with_reducible apply answerOnly_changes
    | with_reducible apply startTune_changes | split | dsimp only

theorem doTuneAbort_changes {wr : Bool} {s y : State} (x0 : List Byte) (hy : Changes wr s y) :
    Changes wr s (doTuneAbort x0 y) := by
  unfold doTuneAbort
  repeat' first
    | with_reducible exact hy | with_reducible assumption | (exact fun _ => rfl) | (exact fun _ => ⟨rfl, rfl⟩)
    | (exact rfl) | (exact Or.inl (Nat.le_refl _)) | (intro _) | with_reducible apply abandonCheck_changes
    | with_reducible apply abortRun_changes | with_reducible apply answerOnly_changes | split | dsimp only

theorem markStore_changes {w : Bool} {s t : State} (h : Changes w s t) : Changes w s (markStore t) :=
  store_c h (fun _ => rfl) rfl rfl (.inl (by simp))

theorem setHand_changes {wr : Bool} {s y : State} (h : Hand) (hy : Changes wr s y) :
    Changes wr s (setHand h y) := by
  unfold setHand
  repeat' first
    | with_reducible exact hy | with_reducible assumption | (exact fun _ => rfl) | (exact fun _ => ⟨rfl, rfl⟩)
    | (exact rfl) | (exact Or.inl (Nat.le_refl _)) | (intro _) | with_reducible apply req_c | split | dsimp only

theorem doBarrierApplied_changes {wr : Bool} {s y : State} (x0 : List Byte) (hy : Changes wr s y) :
    Changes wr s (doBarrierApplied x0 y) := by
  unfold doBarrierApplied
  repeat' first
    | with_reducible exact hy | with_reducible assumption | (exact fun _ => rfl) | (exact fun _ => ⟨rfl, rfl⟩)
    | (exact rfl) | (exact Or.inl (Nat.le_refl _)) | (intro _) | with_reducible apply answerOnly_changes
    | with_reducible apply markStore_changes | with_reducible apply setHand_changes | split | dsimp only

theorem deliveryStage_changes {wr : Bool} {s y : State} (hy : Changes wr s y) :
    Changes wr s (deliveryStage y) := by
  unfold deliveryStage
  repeat' first
    | with_reducible exact hy | with_reducible assumption | (exact fun _ => rfl) | (exact fun _ => ⟨rfl, rfl⟩)
    | (exact rfl) | (exact Or.inl (Nat.le_refl _)) | (intro _) | with_reducible apply markDelivery_changes
    | with_reducible apply answerOnly_changes | with_reducible apply setHand_changes | split | dsimp only

theorem doBarrierDelivered_changes {wr : Bool} {s y : State} (x0 : List Byte) (hy : Changes wr s y) :
    Changes wr s (doBarrierDelivered x0 y) := by
  unfold doBarrierDelivered
  repeat' first
    | with_reducible exact hy | with_reducible assumption | (exact fun _ => rfl) | (exact fun _ => ⟨rfl, rfl⟩)
    | (exact rfl) | (exact Or.inl (Nat.le_refl _)) | (intro _) | with_reducible apply markStore_changes
    | with_reducible apply setHand_changes | with_reducible apply deliveryStage_changes | split | dsimp only

theorem doCounterSnapshot_changes {wr : Bool} {s y : State} (payload : List Byte) (hy : Changes wr s y) :
    Changes wr s (doCounterSnapshot payload y) := by
  unfold doCounterSnapshot
  repeat' first
    | with_reducible exact hy | with_reducible assumption | (exact fun _ => rfl) | (exact fun _ => ⟨rfl, rfl⟩)
    | (exact rfl) | (exact Or.inl (Nat.le_refl _)) | (intro _) | with_reducible apply answer_changes
    | with_reducible apply answerOnly_changes | with_reducible apply link_c | split | dsimp only

theorem rebuildVoices_changes {w : Bool} {s t : State} (h : Changes w s t) : Changes w s (rebuildVoices t) := .snoc h .rebuild

theorem clearRouter_changes {w : Bool} {s t : State} (h : Changes w s t) : Changes w s (clearRouter t) := .snoc h .clear

theorem resetVoices_changes {w : Bool} {s t : State} (h : Changes w s t) : Changes w s (resetVoices t) :=
  .snoc (clearRouter_changes (rebuildVoices_changes (abortForReset_changes h))) .mute

theorem doResetVoices_changes {wr : Bool} {s y : State} (payload : List Byte) (hy : Changes wr s y) :
    Changes wr s (doResetVoices payload y) := by
  unfold doResetVoices
  repeat' first
    | with_reducible exact hy | with_reducible assumption | (exact fun _ => rfl) | (exact fun _ => ⟨rfl, rfl⟩)
    | (exact rfl) | (exact Or.inl (Nat.le_refl _)) | (intro _) | with_reducible apply answerOnly_changes
    | with_reducible apply resetVoices_changes | split | dsimp only

theorem doResetFull_changes {wr : Bool} {s y : State} (f : Frame) (hy : Changes wr s y) :
    Changes wr s (doResetFull f y) := by
  unfold doResetFull
  repeat' first
    | with_reducible exact hy | with_reducible assumption | (exact fun _ => rfl) | (exact fun _ => ⟨rfl, rfl⟩)
    | (exact rfl) | (exact Or.inl (Nat.le_refl _)) | (intro _) | with_reducible apply joinResponse_changes | split
    | dsimp only

/-! ## The commands -/

theorem act_changes {w : Bool} {s t : State} {f : State → State} (h : act f s = .next t) (k : Changes w s (f s)) : Changes w s t := by
  unfold act at h
  cases h
  split
  · exact .refl
  · exact k

theorem execStoreOpStart_changes {w : Bool} {s t : State}  (h : execStoreOpStart  s = .next t) : Changes w s t := by
  unfold execStoreOpStart at h
  apply act_changes h
  have hy : Changes w s s := .refl
  repeat' first
    | with_reducible exact hy | with_reducible assumption | (exact fun _ => rfl) | (exact fun _ => ⟨rfl, rfl⟩)
    | (exact rfl) | (exact Or.inl (Nat.le_refl _)) | (intro _) | with_reducible apply store_c | split | dsimp only

theorem execPendingSelectPlaced_changes {w : Bool} {s t : State}  (h : execPendingSelectPlaced  s = .next t) : Changes w s t := by
  unfold execPendingSelectPlaced at h
  apply act_changes h
  have hy : Changes w s s := .refl
  repeat' first
    | with_reducible exact hy | with_reducible assumption | (exact fun _ => rfl) | (exact fun _ => ⟨rfl, rfl⟩)
    | (exact rfl) | (exact Or.inl (Nat.le_refl _)) | (intro _) | with_reducible apply placeSelects_changes | split
    | dsimp only

theorem execRecallReadEnd_changes {w : Bool} {s t : State}  (h : execRecallReadEnd  s = .next t) : Changes w s t := by
  unfold execRecallReadEnd at h
  apply act_changes h
  have hy : Changes w s s := .refl
  repeat' first
    | with_reducible exact hy | with_reducible assumption | (exact fun _ => rfl) | (exact fun _ => ⟨rfl, rfl⟩)
    | (exact rfl) | (exact Or.inl (Nat.le_refl _)) | (intro _) | with_reducible apply leaveStore_changes
    | with_reducible apply endRecall_changes | split | dsimp only

theorem execNextNoteCommit_changes {w : Bool} {s t : State} (p : PartId) (h : execNextNoteCommit p s = .next t) : Changes w s t := by
  unfold execNextNoteCommit at h
  apply act_changes h
  have hy : Changes w s s := .refl
  repeat' first
    | with_reducible exact hy | with_reducible assumption | (exact fun _ => rfl) | (exact fun _ => ⟨rfl, rfl⟩)
    | (exact rfl) | (exact Or.inl (Nat.le_refl _)) | (intro _) | with_reducible apply commitStaged_changes | split
    | dsimp only

theorem execPageTransferDone_changes {w : Bool} {s t : State}  (h : execPageTransferDone  s = .next t) : Changes w s t := by
  unfold execPageTransferDone at h
  apply act_changes h
  have hy : Changes w s s := .refl
  repeat' first
    | with_reducible exact hy | with_reducible assumption | (exact fun _ => rfl) | (exact fun _ => ⟨rfl, rfl⟩)
    | (exact rfl) | (exact Or.inl (Nat.le_refl _)) | (intro _) | with_reducible apply store_c | split | dsimp only

theorem execPageWriteDone_changes {w : Bool} {s t : State} (h : execPageWriteDone s = .next t) : Changes w s t := by
  unfold execPageWriteDone at h
  apply act_changes h
  split
  · split
    · next hi => exact completePage_changes .refl hi
    · exact .refl
  · exact .refl

theorem execPageTimeout_changes {w : Bool} {s t : State}  (h : execPageTimeout  s = .next t) : Changes w s t := by
  unfold execPageTimeout at h
  apply act_changes h
  have hy : Changes w s s := .refl
  repeat' first
    | with_reducible exact hy | with_reducible assumption | (exact fun _ => rfl) | (exact fun _ => ⟨rfl, rfl⟩)
    | (exact rfl) | (exact Or.inl (Nat.le_refl _)) | (intro _) | with_reducible apply failPage_changes | split
    | dsimp only

theorem execScanRound_changes {w : Bool} {s t : State}  (h : execScanRound  s = .next t) : Changes w s t := by
  unfold execScanRound at h
  apply act_changes h
  have hy : Changes w s s := .refl
  repeat' first
    | with_reducible exact hy | with_reducible assumption | (exact fun _ => rfl) | (exact fun _ => ⟨rfl, rfl⟩)
    | (exact rfl) | (exact Or.inl (Nat.le_refl _)) | (intro _) | with_reducible apply driveFrom_changes
    | with_reducible apply startScanTimer_changes | split | dsimp only

theorem execScanSettle_changes {w : Bool} {s t : State}  (h : execScanSettle  s = .next t) : Changes w s t := by
  unfold execScanSettle at h
  apply act_changes h
  have hy : Changes w s s := .refl
  repeat' first
    | with_reducible exact hy | with_reducible assumption | (exact fun _ => rfl) | (exact fun _ => ⟨rfl, rfl⟩)
    | (exact rfl) | (exact Or.inl (Nat.le_refl _)) | (intro _) | with_reducible apply convertFrom_changes | split
    | dsimp only

theorem execScanSample_changes {w : Bool} {s t : State} (sample : Word12) (h : execScanSample sample s = .next t) : Changes w s t := by
  unfold execScanSample at h
  apply act_changes h
  have hy : Changes w s s := .refl
  repeat' first
    | with_reducible exact hy | with_reducible assumption | (exact fun _ => rfl) | (exact fun _ => ⟨rfl, rfl⟩)
    | (exact rfl) | (exact Or.inl (Nat.le_refl _)) | (intro _) | with_reducible apply convertFrom_changes
    | with_reducible apply takeSample_changes | split | dsimp only

theorem execVoiceLinkOpportunity_changes {w : Bool} {s t : State}  (h : execVoiceLinkOpportunity  s = .next t) : Changes w s t := by
  unfold execVoiceLinkOpportunity at h
  apply act_changes h
  have hy : Changes w s s := .refl
  repeat' first
    | with_reducible exact hy | with_reducible assumption | (exact fun _ => rfl) | (exact fun _ => ⟨rfl, rfl⟩)
    | (exact rfl) | (exact Or.inl (Nat.le_refl _)) | (intro _) | with_reducible apply chooseFrame_changes | split
    | dsimp only

theorem execVoiceLinkFrameSent_changes {w : Bool} {s t : State}  (h : execVoiceLinkFrameSent  s = .next t) : Changes w s t := by
  unfold execVoiceLinkFrameSent at h
  apply act_changes h
  have hy : Changes w s s := .refl
  repeat' first
    | with_reducible exact hy | with_reducible assumption | (exact fun _ => rfl) | (exact fun _ => ⟨rfl, rfl⟩)
    | (exact rfl) | (exact Or.inl (Nat.le_refl _)) | (intro _) | with_reducible apply frameSent_changes | split
    | dsimp only

theorem execTunerTakeVoice_changes {w : Bool} {s t : State}  (h : execTunerTakeVoice  s = .next t) : Changes w s t := by
  unfold execTunerTakeVoice at h
  apply act_changes h
  have hy : Changes w s s := .refl
  repeat' first
    | with_reducible exact hy | with_reducible assumption | (exact fun _ => rfl) | (exact fun _ => ⟨rfl, rfl⟩)
    | (exact rfl) | (exact Or.inl (Nat.le_refl _)) | (intro _) | with_reducible apply beginVoice_changes | split
    | dsimp only

theorem execMeasurementSettleStart_changes {w : Bool} {s t : State}  (h : execMeasurementSettleStart  s = .next t) : Changes w s t := by
  unfold execMeasurementSettleStart at h
  apply act_changes h
  have hy : Changes w s s := .refl
  repeat' first
    | with_reducible exact hy | with_reducible assumption | (exact fun _ => rfl) | (exact fun _ => ⟨rfl, rfl⟩)
    | (exact rfl) | (exact Or.inl (Nat.le_refl _)) | (intro _) | with_reducible apply tuner_c | split | dsimp only

theorem execTuneSettleExpiry_changes {w : Bool} {s t : State}  (h : execTuneSettleExpiry  s = .next t) : Changes w s t := by
  unfold execTuneSettleExpiry at h
  apply act_changes h
  have hy : Changes w s s := .refl
  repeat' first
    | with_reducible exact hy | with_reducible assumption | (exact fun _ => rfl) | (exact fun _ => ⟨rfl, rfl⟩)
    | (exact rfl) | (exact Or.inl (Nat.le_refl _)) | (intro _) | with_reducible apply tuner_c | split | dsimp only

theorem execTuneEdge_changes {w : Bool} {s t : State} (ticks : Nat) (h : execTuneEdge ticks s = .next t) : Changes w s t := by
  unfold execTuneEdge at h
  apply act_changes h
  have hy : Changes w s s := .refl
  repeat' first
    | with_reducible exact hy | with_reducible assumption | (exact fun _ => rfl) | (exact fun _ => ⟨rfl, rfl⟩)
    | (exact rfl) | (exact Or.inl (Nat.le_refl _)) | (intro _) | with_reducible apply startCount_changes
    | with_reducible apply countEdge_changes | split | dsimp only

theorem execCountSaturated_changes {w : Bool} {s t : State}  (h : execCountSaturated  s = .next t) : Changes w s t := by
  unfold execCountSaturated at h
  apply act_changes h
  have hy : Changes w s s := .refl
  repeat' first
    | with_reducible exact hy | with_reducible assumption | (exact fun _ => rfl) | (exact fun _ => ⟨rfl, rfl⟩)
    | (exact rfl) | (exact Or.inl (Nat.le_refl _)) | (intro _) | with_reducible apply takeOutcome_changes | split
    | dsimp only

theorem execNoSignalTimeout_changes {w : Bool} {s t : State}  (h : execNoSignalTimeout  s = .next t) : Changes w s t := by
  unfold execNoSignalTimeout at h
  apply act_changes h
  have hy : Changes w s s := .refl
  repeat' first
    | with_reducible exact hy | with_reducible assumption | (exact fun _ => rfl) | (exact fun _ => ⟨rfl, rfl⟩)
    | (exact rfl) | (exact Or.inl (Nat.le_refl _)) | (intro _) | with_reducible apply takeOutcome_changes | split
    | dsimp only

theorem execDriftPeriodExpiry_changes {w : Bool} {s t : State}  (h : execDriftPeriodExpiry  s = .next t) : Changes w s t := by
  unfold execDriftPeriodExpiry at h
  apply act_changes h
  have hy : Changes w s s := .refl
  repeat' first
    | with_reducible exact hy | with_reducible assumption | (exact fun _ => rfl) | (exact fun _ => ⟨rfl, rfl⟩)
    | (exact rfl) | (exact Or.inl (Nat.le_refl _)) | (intro _) | with_reducible apply lookForDrift_changes
    | with_reducible apply tuner_c | split | dsimp only

theorem execRetuneRunStart_changes {w : Bool} {s t : State}  (h : execRetuneRunStart  s = .next t) : Changes w s t := by
  unfold execRetuneRunStart at h
  apply act_changes h
  have hy : Changes w s s := .refl
  repeat' first
    | with_reducible exact hy | with_reducible assumption | (exact fun _ => rfl) | (exact fun _ => ⟨rfl, rfl⟩)
    | (exact rfl) | (exact Or.inl (Nat.le_refl _)) | (intro _) | with_reducible apply abandonCheck_changes
    | with_reducible apply startRun_changes | with_reducible apply tuner_c | split | dsimp only

theorem execHuntGoodFrame_changes {w : Bool} {s t : State} (bytes : List RxByte) (h : execHuntGoodFrame bytes s = .next t) : Changes w s t := by
  unfold execHuntGoodFrame at h
  apply act_changes h
  have hy : Changes w s s := .refl
  repeat' first
    | with_reducible exact hy | with_reducible assumption | (exact fun _ => rfl) | (exact fun _ => ⟨rfl, rfl⟩)
    | (exact rfl) | (exact Or.inl (Nat.le_refl _)) | (intro _) | with_reducible apply huntBytes_changes | split
    | dsimp only

theorem execFrameGapTimeout_changes {w : Bool} {s t : State} (bytes : List RxByte) (h : execFrameGapTimeout bytes s = .next t) : Changes w s t := by
  unfold execFrameGapTimeout at h
  apply act_changes h
  have hy : Changes w s s := .refl
  repeat' first
    | with_reducible exact hy | with_reducible assumption | (exact fun _ => rfl) | (exact fun _ => ⟨rfl, rfl⟩)
    | (exact rfl) | (exact Or.inl (Nat.le_refl _)) | (intro _) | with_reducible apply abandonFrame_changes | split
    | dsimp only

theorem execBadFrame_changes {w : Bool} {s t : State} (bytes : List RxByte) (h : execBadFrame bytes s = .next t) : Changes w s t := by
  unfold execBadFrame at h
  apply act_changes h
  have hy : Changes w s s := .refl
  repeat' first
    | with_reducible exact hy | with_reducible assumption | (exact fun _ => rfl) | (exact fun _ => ⟨rfl, rfl⟩)
    | (exact rfl) | (exact Or.inl (Nat.le_refl _)) | (intro _) | with_reducible apply huntBytes_changes
    | with_reducible apply rejectFrame_changes | split | dsimp only

theorem execIdleFrame_changes {w : Bool} {s t : State}  (h : execIdleFrame  s = .next t) : Changes w s t := by
  unfold execIdleFrame at h
  apply act_changes h
  have hy : Changes w s s := .refl
  repeat' first
    | with_reducible exact hy | with_reducible assumption | (exact fun _ => rfl) | (exact fun _ => ⟨rfl, rfl⟩)
    | (exact rfl) | (exact Or.inl (Nat.le_refl _)) | (intro _) | with_reducible apply receive_changes | split
    | dsimp only

theorem execIgnoredFrame_changes {w : Bool} {s t : State} (f : Frame) (h : execIgnoredFrame f s = .next t) : Changes w s t := by
  unfold execIgnoredFrame at h
  apply act_changes h
  have hy : Changes w s s := .refl
  repeat' first
    | with_reducible exact hy | with_reducible assumption | (exact fun _ => rfl) | (exact fun _ => ⟨rfl, rfl⟩)
    | (exact rfl) | (exact Or.inl (Nat.le_refl _)) | (intro _) | with_reducible apply receive_changes | split
    | dsimp only

theorem execNoteOn_changes {w : Bool} {s t : State} (channel key velocity : Byte) (h : execNoteOn channel key velocity s = .next t) : Changes w s t := by
  unfold execNoteOn at h
  apply act_changes h
  have hy : Changes w s s := .refl
  repeat' first
    | with_reducible exact hy | with_reducible assumption | (exact fun _ => rfl) | (exact fun _ => ⟨rfl, rfl⟩)
    | (exact rfl) | (exact Or.inl (Nat.le_refl _)) | (intro _) | with_reducible apply takeNoteOn_changes
    | with_reducible apply receive_changes | with_reducible apply event_changes | split | dsimp only

theorem execNoteOff_changes {w : Bool} {s t : State} (channel key : Byte) (h : execNoteOff channel key s = .next t) : Changes w s t := by
  unfold execNoteOff at h
  apply act_changes h
  have hy : Changes w s s := .refl
  repeat' first
    | with_reducible exact hy | with_reducible assumption | (exact fun _ => rfl) | (exact fun _ => ⟨rfl, rfl⟩)
    | (exact rfl) | (exact Or.inl (Nat.le_refl _)) | (intro _) | with_reducible apply takeNoteOff_changes
    | with_reducible apply receive_changes | with_reducible apply event_changes | split | dsimp only

theorem execSustain_changes {w : Bool} {s t : State} (channel onOff : Byte) (h : execSustain channel onOff s = .next t) : Changes w s t := by
  unfold execSustain at h
  apply act_changes h
  have hy : Changes w s s := .refl
  repeat' first
    | with_reducible exact hy | with_reducible assumption | (exact fun _ => rfl) | (exact fun _ => ⟨rfl, rfl⟩)
    | (exact rfl) | (exact Or.inl (Nat.le_refl _)) | (intro _) | with_reducible apply onListeners_changes
    | with_reducible apply partSustain_changes | with_reducible apply receive_changes
    | with_reducible apply event_changes | split | dsimp only

theorem execBend_changes {w : Bool} {s t : State} (channel : Byte) (u : Word) (h : execBend channel u s = .next t) : Changes w s t := by
  unfold execBend at h
  apply act_changes h
  have hy : Changes w s s := .refl
  repeat' first
    | with_reducible exact hy | with_reducible assumption | (exact fun _ => rfl) | (exact fun _ => ⟨rfl, rfl⟩)
    | (exact rfl) | (exact Or.inl (Nat.le_refl _)) | (intro _) | with_reducible apply takeBend_changes
    | with_reducible apply receive_changes | with_reducible apply event_changes | split | dsimp only

theorem execControlFine_changes {w : Bool} {s t : State} (channel parameter low : Byte) (h : execControlFine channel parameter low s = .next t) : Changes w s t := by
  unfold execControlFine at h
  apply act_changes h
  have hy : Changes w s s := .refl
  repeat' first
    | with_reducible exact hy | with_reducible assumption | (exact fun _ => rfl) | (exact fun _ => ⟨rfl, rfl⟩)
    | (exact rfl) | (exact Or.inl (Nat.le_refl _)) | (intro _) | with_reducible apply takeFine_changes
    | with_reducible apply receive_changes | with_reducible apply event_changes | split | dsimp only

theorem execControlCoarse_changes {w : Bool} {s t : State} (channel parameter high : Byte) (h : execControlCoarse channel parameter high s = .next t) : Changes w s t := by
  unfold execControlCoarse at h
  apply act_changes h
  have hy : Changes w s s := .refl
  repeat' first
    | with_reducible exact hy | with_reducible assumption | (exact fun _ => rfl) | (exact fun _ => ⟨rfl, rfl⟩)
    | (exact rfl) | (exact Or.inl (Nat.le_refl _)) | (intro _) | with_reducible apply takeCoarse_changes
    | with_reducible apply receive_changes | with_reducible apply event_changes | split | dsimp only

theorem execAllOff_changes {w : Bool} {s t : State} (channel : Byte) (h : execAllOff channel s = .next t) : Changes w s t := by
  unfold execAllOff at h
  apply act_changes h
  have hy : Changes w s s := .refl
  repeat' first
    | with_reducible exact hy | with_reducible assumption | (exact fun _ => rfl) | (exact fun _ => ⟨rfl, rfl⟩)
    | (exact rfl) | (exact Or.inl (Nat.le_refl _)) | (intro _) | with_reducible apply onListeners_changes
    | with_reducible apply partAllOff_changes | with_reducible apply receive_changes
    | with_reducible apply event_changes | split | dsimp only

theorem execPatchSelect_changes {w : Bool} {s t : State} (channel slot : Byte) (h : execPatchSelect channel slot s = .next t) : Changes w s t := by
  unfold execPatchSelect at h
  apply act_changes h
  have hy : Changes w s s := .refl
  repeat' first
    | with_reducible exact hy | with_reducible assumption | (exact fun _ => rfl) | (exact fun _ => ⟨rfl, rfl⟩)
    | (exact rfl) | (exact Or.inl (Nat.le_refl _)) | (intro _) | with_reducible apply onListeners_changes
    | with_reducible apply partSelect_changes | with_reducible apply receive_changes
    | with_reducible apply event_changes | split | dsimp only

theorem execRequestArrival_changes {w : Bool} {s t : State} (f : Frame) (h : execRequestArrival f s = .next t) : Changes w s t := by
  unfold execRequestArrival at h
  apply act_changes h
  have hy : Changes w s s := .refl
  repeat' first
    | with_reducible exact hy | with_reducible assumption | (exact fun _ => rfl) | (exact fun _ => ⟨rfl, rfl⟩)
    | (exact rfl) | (exact Or.inl (Nat.le_refl _)) | (intro _) | with_reducible apply receive_changes
    | with_reducible apply queueRequest_changes | split | dsimp only

theorem execResponseJoin_changes {w : Bool} {s t : State}  (h : execResponseJoin  s = .next t) : Changes w s t := by
  unfold execResponseJoin at h
  apply act_changes h
  have hy : Changes w s s := .refl
  repeat' first
    | with_reducible exact hy | with_reducible assumption | (exact fun _ => rfl) | (exact fun _ => ⟨rfl, rfl⟩)
    | (exact rfl) | (exact Or.inl (Nat.le_refl _)) | (intro _) | with_reducible apply joinResponse_changes | split
    | dsimp only

theorem execMissedRefill_changes {w : Bool} {s t : State} (h : execMissedRefill s = .next t) : Changes w s t := by
  unfold execMissedRefill at h
  apply act_changes h
  split
  · exact .refl
  · next hn =>
    split
    · exact refill_changes _ .refl (by omega)
    · exact link_c .refl rfl rfl rfl

theorem execOutboundIdleTimeout_changes {w : Bool} {s t : State}  (h : execOutboundIdleTimeout  s = .next t) : Changes w s t := by
  unfold execOutboundIdleTimeout at h
  apply act_changes h
  have hy : Changes w s s := .refl
  repeat' first
    | with_reducible exact hy | with_reducible assumption | (exact fun _ => rfl) | (exact fun _ => ⟨rfl, rfl⟩)
    | (exact rfl) | (exact Or.inl (Nat.le_refl _)) | (intro _) | with_reducible apply link_c | split | dsimp only

theorem execSilenceAction_changes {w : Bool} {s t : State}  (h : execSilenceAction  s = .next t) : Changes w s t := by
  unfold execSilenceAction at h
  apply act_changes h
  have hy : Changes w s s := .refl
  repeat' first
    | with_reducible exact hy | with_reducible assumption | (exact fun _ => rfl) | (exact fun _ => ⟨rfl, rfl⟩)
    | (exact rfl) | (exact Or.inl (Nat.le_refl _)) | (intro _) | with_reducible apply silenceAction_changes | split
    | dsimp only

theorem execGlideStep_changes {w : Bool} {s t : State}  (h : execGlideStep  s = .next t) : Changes w s t := by
  unfold execGlideStep at h
  apply act_changes h
  have hy : Changes w s s := .refl
  repeat' first
    | with_reducible exact hy | with_reducible assumption | (exact fun _ => rfl) | (exact fun _ => ⟨rfl, rfl⟩)
    | (exact rfl) | (exact Or.inl (Nat.le_refl _)) | (intro _) | with_reducible apply forEach_changes
    | with_reducible apply glideVoice_changes | with_reducible apply pitch_c | split | dsimp only

theorem execDampEnd_changes {w : Bool} {s t : State} (v : VoiceId) (h : execDampEnd v s = .next t) : Changes w s t := by
  unfold execDampEnd at h
  apply act_changes h
  have hy : Changes w s s := .refl
  repeat' first
    | with_reducible exact hy | with_reducible assumption | (exact fun _ => rfl) | (exact fun _ => ⟨rfl, rfl⟩)
    | (exact rfl) | (exact Or.inl (Nat.le_refl _)) | (intro _) | with_reducible apply endDamp_changes | split
    | dsimp only

theorem execReleaseDeadlineExpiry_changes {w : Bool} {s t : State} (v : VoiceId) (h : execReleaseDeadlineExpiry v s = .next t) : Changes w s t := by
  unfold execReleaseDeadlineExpiry at h
  apply act_changes h
  have hy : Changes w s s := .refl
  repeat' first
    | with_reducible exact hy | with_reducible assumption | (exact fun _ => rfl) | (exact fun _ => ⟨rfl, rfl⟩)
    | (exact rfl) | (exact Or.inl (Nat.le_refl _)) | (intro _) | with_reducible apply enterIdle_changes
    | with_reducible apply offerIdle_changes | split | dsimp only

theorem execPowerOn_changes {s t : State} (h : execPowerOn s = .next t) : Changes true s t := by
  cases h
  exact resetAll_changes .refl

theorem execResetPin_changes {s t : State}  (h : execResetPin  s = .next t) : Changes true s t := by
  unfold execResetPin at h
  apply act_changes h
  have hy : Changes true s s := .refl
  repeat' first
    | with_reducible exact hy | with_reducible assumption | (exact fun _ => rfl) | (exact fun _ => ⟨rfl, rfl⟩)
    | (exact rfl) | (exact Or.inl (Nat.le_refl _)) | (intro _) | with_reducible apply resetAll_changes
    | with_reducible apply holdReset_changes | split | dsimp only

theorem execResetRelease_changes {w : Bool} {s t : State} (h : execResetRelease s = .next t) : Changes w s t := by
  cases h
  split
  · exact releaseReset_changes .refl
  · exact .refl

theorem execFullResetBegin_changes {s t : State}  (h : execFullResetBegin  s = .next t) : Changes true s t := by
  unfold execFullResetBegin at h
  apply act_changes h
  have hy : Changes true s s := .refl
  repeat' first
    | with_reducible exact hy | with_reducible assumption | (exact fun _ => rfl) | (exact fun _ => ⟨rfl, rfl⟩)
    | (exact rfl) | (exact Or.inl (Nat.le_refl _)) | (intro _) | with_reducible apply resetAll_changes | split
    | dsimp only

theorem execOutboundFrameEnd_changes {s t : State}  (h : execOutboundFrameEnd  s = .next t) : Changes true s t := by
  unfold execOutboundFrameEnd at h
  apply act_changes h
  have hy : Changes true s s := .refl
  repeat' first
    | with_reducible exact hy | with_reducible assumption | (exact fun _ => rfl) | (exact fun _ => ⟨rfl, rfl⟩)
    | (exact rfl) | (exact Or.inl (Nat.le_refl _)) | (intro _) | with_reducible apply endOutbound_changes
    | with_reducible apply resetAll_changes | split | dsimp only

theorem execSetupLoad_changes {s t : State}  (h : execSetupLoad  s = .next t) : Changes true s t := by
  unfold execSetupLoad at h
  apply act_changes h
  have hy : Changes true s s := .refl
  repeat' first
    | with_reducible exact hy | with_reducible assumption | (exact fun _ => rfl) | (exact fun _ => ⟨rfl, rfl⟩)
    | (exact rfl) | (exact Or.inl (Nat.le_refl _)) | (intro _) | with_reducible apply leaveStore_changes
    | with_reducible apply loadSetup_changes | with_reducible apply setPhase_changes | split | dsimp only

theorem execCalLoad_changes {w : Bool} {s t : State}  (h : execCalLoad  s = .next t) : Changes w s t := by
  unfold execCalLoad at h
  apply act_changes h
  have hy : Changes w s s := .refl
  repeat' first
    | with_reducible exact hy | with_reducible assumption | (exact fun _ => rfl) | (exact fun _ => ⟨rfl, rfl⟩)
    | (exact rfl) | (exact Or.inl (Nat.le_refl _)) | (intro _) | with_reducible apply leaveStore_changes
    | with_reducible apply loadCalibration_changes | with_reducible apply enterReady_changes | split | dsimp only

theorem execStatus_changes {w : Bool} {s t : State}  (h : execStatus  s = .next t) : Changes w s t := by
  unfold execStatus at h
  apply act_changes h
  have hy : Changes w s s := .refl
  repeat' first
    | with_reducible exact hy | with_reducible assumption | (exact fun _ => rfl) | (exact fun _ => ⟨rfl, rfl⟩)
    | (exact rfl) | (exact Or.inl (Nat.le_refl _)) | (intro _) | with_reducible apply request_changes
    | with_reducible apply doStatus_changes | split | dsimp only

theorem execTableRead_changes {w : Bool} {s t : State}  (h : execTableRead  s = .next t) : Changes w s t := by
  unfold execTableRead at h
  apply act_changes h
  have hy : Changes w s s := .refl
  repeat' first
    | with_reducible exact hy | with_reducible assumption | (exact fun _ => rfl) | (exact fun _ => ⟨rfl, rfl⟩)
    | (exact rfl) | (exact Or.inl (Nat.le_refl _)) | (intro _) | with_reducible apply request_changes
    | with_reducible apply checked_changes | with_reducible apply doTableRead_changes | split | dsimp only

theorem execTableWrite_changes {s t : State}  (h : execTableWrite  s = .next t) : Changes true s t := by
  unfold execTableWrite at h
  apply act_changes h
  have hy : Changes true s s := .refl
  repeat' first
    | with_reducible exact hy | with_reducible assumption | (exact fun _ => rfl) | (exact fun _ => ⟨rfl, rfl⟩)
    | (exact rfl) | (exact Or.inl (Nat.le_refl _)) | (intro _) | with_reducible apply request_changes
    | with_reducible apply checked_changes | with_reducible apply doTableWrite_changes | split | dsimp only

theorem execTableMerge_changes {s t : State}  (h : execTableMerge  s = .next t) : Changes true s t := by
  unfold execTableMerge at h
  apply act_changes h
  have hy : Changes true s s := .refl
  repeat' first
    | with_reducible exact hy | with_reducible assumption | (exact fun _ => rfl) | (exact fun _ => ⟨rfl, rfl⟩)
    | (exact rfl) | (exact Or.inl (Nat.le_refl _)) | (intro _) | with_reducible apply request_changes
    | with_reducible apply checked_changes | with_reducible apply doTableMerge_changes | split | dsimp only

theorem execPatchRecall_changes {w : Bool} {s t : State}  (h : execPatchRecall  s = .next t) : Changes w s t := by
  unfold execPatchRecall at h
  apply act_changes h
  have hy : Changes w s s := .refl
  repeat' first
    | with_reducible exact hy | with_reducible assumption | (exact fun _ => rfl) | (exact fun _ => ⟨rfl, rfl⟩)
    | (exact rfl) | (exact Or.inl (Nat.le_refl _)) | (intro _) | with_reducible apply request_changes
    | with_reducible apply checked_changes | with_reducible apply doPatchRecall_changes | split | dsimp only

theorem execPatchStore_changes {w : Bool} {s t : State}  (h : execPatchStore  s = .next t) : Changes w s t := by
  unfold execPatchStore at h
  apply act_changes h
  have hy : Changes w s s := .refl
  repeat' first
    | with_reducible exact hy | with_reducible assumption | (exact fun _ => rfl) | (exact fun _ => ⟨rfl, rfl⟩)
    | (exact rfl) | (exact Or.inl (Nat.le_refl _)) | (intro _) | with_reducible apply request_changes
    | with_reducible apply checked_changes | with_reducible apply doPatchStore_changes | split | dsimp only

theorem execSetupSave_changes {w : Bool} {s t : State} (h : execSetupSave s = .next t) : Changes w s t :=
  act_changes h (request_changes .refl (fun _ hy => checked_changes hy (fun _ hy => answerPlaced_changes hy (fun _ => placeStore_changes hy))))

theorem execCalSave_changes {w : Bool} {s t : State} (h : execCalSave s = .next t) : Changes w s t :=
  act_changes h (request_changes .refl (fun _ hy => checked_changes hy (fun _ hy => answerPlaced_changes hy (fun _ => placeStore_changes hy))))

theorem execTuneStart_changes {w : Bool} {s t : State}  (h : execTuneStart  s = .next t) : Changes w s t := by
  unfold execTuneStart at h
  apply act_changes h
  have hy : Changes w s s := .refl
  repeat' first
    | with_reducible exact hy | with_reducible assumption | (exact fun _ => rfl) | (exact fun _ => ⟨rfl, rfl⟩)
    | (exact rfl) | (exact Or.inl (Nat.le_refl _)) | (intro _) | with_reducible apply request_changes
    | with_reducible apply checked_changes | with_reducible apply doTuneStart_changes | split | dsimp only

theorem execTuneAbort_changes {w : Bool} {s t : State}  (h : execTuneAbort  s = .next t) : Changes w s t := by
  unfold execTuneAbort at h
  apply act_changes h
  have hy : Changes w s s := .refl
  repeat' first
    | with_reducible exact hy | with_reducible assumption | (exact fun _ => rfl) | (exact fun _ => ⟨rfl, rfl⟩)
    | (exact rfl) | (exact Or.inl (Nat.le_refl _)) | (intro _) | with_reducible apply request_changes
    | with_reducible apply checked_changes | with_reducible apply doTuneAbort_changes | split | dsimp only

theorem execBarrierApplied_changes {w : Bool} {s t : State}  (h : execBarrierApplied  s = .next t) : Changes w s t := by
  unfold execBarrierApplied at h
  apply act_changes h
  have hy : Changes w s s := .refl
  repeat' first
    | with_reducible exact hy | with_reducible assumption | (exact fun _ => rfl) | (exact fun _ => ⟨rfl, rfl⟩)
    | (exact rfl) | (exact Or.inl (Nat.le_refl _)) | (intro _) | with_reducible apply request_changes
    | with_reducible apply checked_changes | with_reducible apply doBarrierApplied_changes | split | dsimp only

theorem execBarrierDelivered_changes {w : Bool} {s t : State}  (h : execBarrierDelivered  s = .next t) : Changes w s t := by
  unfold execBarrierDelivered at h
  apply act_changes h
  have hy : Changes w s s := .refl
  repeat' first
    | with_reducible exact hy | with_reducible assumption | (exact fun _ => rfl) | (exact fun _ => ⟨rfl, rfl⟩)
    | (exact rfl) | (exact Or.inl (Nat.le_refl _)) | (intro _) | with_reducible apply request_changes
    | with_reducible apply checked_changes | with_reducible apply doBarrierDelivered_changes | split | dsimp only

theorem execDeliveryStage_changes {w : Bool} {s t : State}  (h : execDeliveryStage  s = .next t) : Changes w s t := by
  unfold execDeliveryStage at h
  apply act_changes h
  have hy : Changes w s s := .refl
  repeat' first
    | with_reducible exact hy | with_reducible assumption | (exact fun _ => rfl) | (exact fun _ => ⟨rfl, rfl⟩)
    | (exact rfl) | (exact Or.inl (Nat.le_refl _)) | (intro _) | with_reducible apply deliveryStage_changes | split
    | dsimp only

theorem execBarrierRelease_changes {w : Bool} {s t : State}  (h : execBarrierRelease  s = .next t) : Changes w s t := by
  unfold execBarrierRelease at h
  apply act_changes h
  have hy : Changes w s s := .refl
  repeat' first
    | with_reducible exact hy | with_reducible assumption | (exact fun _ => rfl) | (exact fun _ => ⟨rfl, rfl⟩)
    | (exact rfl) | (exact Or.inl (Nat.le_refl _)) | (intro _) | with_reducible apply answerOnly_changes | split
    | dsimp only

theorem execCounterSnapshot_changes {w : Bool} {s t : State}  (h : execCounterSnapshot  s = .next t) : Changes w s t := by
  unfold execCounterSnapshot at h
  apply act_changes h
  have hy : Changes w s s := .refl
  repeat' first
    | with_reducible exact hy | with_reducible assumption | (exact fun _ => rfl) | (exact fun _ => ⟨rfl, rfl⟩)
    | (exact rfl) | (exact Or.inl (Nat.le_refl _)) | (intro _) | with_reducible apply request_changes
    | with_reducible apply checked_changes | with_reducible apply doCounterSnapshot_changes | split | dsimp only

theorem execResetVoices_changes {w : Bool} {s t : State}  (h : execResetVoices  s = .next t) : Changes w s t := by
  unfold execResetVoices at h
  apply act_changes h
  have hy : Changes w s s := .refl
  repeat' first
    | with_reducible exact hy | with_reducible assumption | (exact fun _ => rfl) | (exact fun _ => ⟨rfl, rfl⟩)
    | (exact rfl) | (exact Or.inl (Nat.le_refl _)) | (intro _) | with_reducible apply request_changes
    | with_reducible apply checked_changes | with_reducible apply doResetVoices_changes | split | dsimp only

theorem execResetFull_changes {w : Bool} {s t : State}  (h : execResetFull  s = .next t) : Changes w s t := by
  unfold execResetFull at h
  apply act_changes h
  have hy : Changes w s s := .refl
  repeat' first
    | with_reducible exact hy | with_reducible assumption | (exact fun _ => rfl) | (exact fun _ => ⟨rfl, rfl⟩)
    | (exact rfl) | (exact Or.inl (Nat.le_refl _)) | (intro _) | with_reducible apply request_changes
    | with_reducible apply checked_changes | with_reducible apply doResetFull_changes | split | dsimp only

/-- Everything a command can do: a run of the changes of Laws/Changes.lean, those of a configuration table only by the commands
that write tables. -/
theorem exec_changes {c : Instr} {s t : State} (h : exec c s = .next t) : Changes (writesTables c) s t := by
  cases c with
  | powerOn => exact execPowerOn_changes h
  | resetPin => exact execResetPin_changes h
  | fullResetBegin => exact execFullResetBegin_changes h
  | huntGoodFrame bytes => exact execHuntGoodFrame_changes bytes h
  | frameGapTimeout bytes => exact execFrameGapTimeout_changes bytes h
  | badFrame bytes => exact execBadFrame_changes bytes h
  | idleFrame => exact execIdleFrame_changes h
  | ignoredFrame f => exact execIgnoredFrame_changes f h
  | noteOn channel key velocity => exact execNoteOn_changes channel key velocity h
  | noteOff channel key => exact execNoteOff_changes channel key h
  | sustain channel onOff => exact execSustain_changes channel onOff h
  | bend channel u => exact execBend_changes channel u h
  | controlFine channel parameter low => exact execControlFine_changes channel parameter low h
  | controlCoarse channel parameter high => exact execControlCoarse_changes channel parameter high h
  | allOff channel => exact execAllOff_changes channel h
  | patchSelect channel slot => exact execPatchSelect_changes channel slot h
  | requestArrival f => exact execRequestArrival_changes f h
  | status => exact execStatus_changes h
  | tableRead => exact execTableRead_changes h
  | tableWrite => exact execTableWrite_changes h
  | tableMerge => exact execTableMerge_changes h
  | patchRecall => exact execPatchRecall_changes h
  | patchStore => exact execPatchStore_changes h
  | setupSave => exact execSetupSave_changes h
  | calSave => exact execCalSave_changes h
  | tuneStart => exact execTuneStart_changes h
  | tuneAbort => exact execTuneAbort_changes h
  | barrierApplied => exact execBarrierApplied_changes h
  | barrierDelivered => exact execBarrierDelivered_changes h
  | deliveryStage => exact execDeliveryStage_changes h
  | barrierRelease => exact execBarrierRelease_changes h
  | counterSnapshot => exact execCounterSnapshot_changes h
  | resetVoices => exact execResetVoices_changes h
  | resetFull => exact execResetFull_changes h
  | responseJoin => exact execResponseJoin_changes h
  | outboundFrameEnd => exact execOutboundFrameEnd_changes h
  | missedRefill => exact execMissedRefill_changes h
  | outboundIdleTimeout => exact execOutboundIdleTimeout_changes h
  | silenceAction => exact execSilenceAction_changes h
  | glideStep => exact execGlideStep_changes h
  | dampEnd v => exact execDampEnd_changes v h
  | releaseDeadlineExpiry v => exact execReleaseDeadlineExpiry_changes v h
  | scanRound => exact execScanRound_changes h
  | scanSettle => exact execScanSettle_changes h
  | scanSample sample => exact execScanSample_changes sample h
  | storeOpStart => exact execStoreOpStart_changes h
  | pendingSelectPlaced => exact execPendingSelectPlaced_changes h
  | recallReadEnd => exact execRecallReadEnd_changes h
  | nextNoteCommit p => exact execNextNoteCommit_changes p h
  | pageTransferDone => exact execPageTransferDone_changes h
  | pageWriteDone => exact execPageWriteDone_changes h
  | pageTimeout => exact execPageTimeout_changes h
  | setupLoad => exact execSetupLoad_changes h
  | calLoad => exact execCalLoad_changes h
  | tunerTakeVoice => exact execTunerTakeVoice_changes h
  | measurementSettleStart => exact execMeasurementSettleStart_changes h
  | tuneSettleExpiry => exact execTuneSettleExpiry_changes h
  | tuneEdge ticks => exact execTuneEdge_changes ticks h
  | countSaturated => exact execCountSaturated_changes h
  | noSignalTimeout => exact execNoSignalTimeout_changes h
  | driftPeriodExpiry => exact execDriftPeriodExpiry_changes h
  | retuneRunStart => exact execRetuneRunStart_changes h
  | voiceLinkOpportunity => exact execVoiceLinkOpportunity_changes h
  | voiceLinkFrameSent => exact execVoiceLinkFrameSent_changes h
  | resetRelease => exact execResetRelease_changes h

/-- A step is the command at the front of the queue, or one tick of the clock. -/
theorem step_cases {s t : State} (h : step s = .next t) :
    (∃ c rest, s.pending = c :: rest ∧ exec c (s.withPending rest) = .next t) ∨ (s.pending = [] ∧ t = tick s) := by
  unfold step at h
  split at h
  · next c rest hp => exact .inl ⟨c, rest, hp, h⟩
  · next hp => cases h; exact .inr ⟨hp, rfl⟩

/-- What every run of changes keeps. -/
theorem Changes.keep {w : Bool} {P : State → Prop} {s t : State} (h : Changes w s t) (k : ∀ t u, Change w t u → P t → P u)
    (hs : P s) : P t := by
  induction h with
  | refl => exact hs
  | snoc _ c ih => exact k _ _ c ih

end Sys2Proof.Machine
end

