-- ==== Sys2Proof/Tests/Slice0.lean ====
section
/-! SUPPORT. Tests, each on one step: the well-formedness smoke, the spec's worked examples, and for every statement with hypotheses a
state and operands that meet them. -/

namespace Sys2Proof.Tests

open Sys2Proof Sys2Proof.Machine

/-! ## Helper states -/

/-- The state after a command. -/
def after (c : Instr) (s : State) : State :=
  match exec c s with
  | .next t => t
  | _ => s

/-- Power-on values, but READY, the receiver LOCKED, the store queue empty and no mute request. -/
def ready : State :=
  { State.reset with
    req := { phase := .ready, hand := .free }
    link := { State.reset.link with rx := .locked }
    store := { State.reset.store with queue := [] }
    vlink := { State.reset.vlink with mute := false } }

/-- A VALID record whose code i is 256 × i. -/
def validCal : CalRecord :=
  { valid := true, last := .pass, codes := Vector.ofFn (fun i : Fin 17 => BitVec.ofNat 16 (256 * i.val)) }

/-- READY with every record VALID. -/
def tuned : State := ready.withTuner { ready.tuner with cal := .replicate 48 validCal }

/-- V0 in a state, owned by part 0 with key 60 and velocity 100, in the list of its state; the other voices BENCHED. -/
def voiced (st : VoiceState) : State :=
  tuned.withAlloc
    { voices := tuned.alloc.voices.set 0 { tuned.voice 0 with
        state := st, owner := some 0, key := some 60, vel := some 100, notified := false
        release := if st = .releasing then some 5 else none, damp := if st = .damping then some 5 else none }
      freeQueue := if st = .idle then [0] else []
      gateList := if st = .held ∨ st = .sustained then [0] else []
      releaseList := if st = .releasing then [0] else [] }

/-- The entry of key 60 on channel 0 for part 0, sounded by V0. -/
def entry0 : HeldEntry :=
  { part := 0, channel := 0, sourceKey := 60, soundingKey := 60, vel := 100, state := .voiced, voices := 1#16 }

/-- With the entry at pool position 0. -/
def holding (s : State) : State :=
  s.withRouter { s.router with pool := s.router.pool.set 0 (some entry0), lists := s.router.lists.set 0 [0] }

/-- With a request at the head of the queue. -/
def asked (f : Frame) (s : State) : State := s.withLink { s.link with requests := [f] }

/-- With a full response FIFO. -/
def crowded (s : State) : State :=
  s.withLink { s.link with line := some .idle
                           responses := .replicate 8 { kind := 0x20, tag := 0, result := .ok, data := [], fullReset := false } }

/-- With n operations in the store queue. -/
def storing (n : Nat) (s : State) : State :=
  s.withStore { s.store with queue := .replicate n { op := .recallRead 1 7 .now, marked := false } }

/-- With no part reviving a voice. -/
def calm (s : State) : State := s.withRouter { s.router with parts := mapVec (fun c => { c with revive := false }) s.router.parts }

/-! ## Well-formedness: each check refuses an ill-formed command -/

theorem test_wf_hunt : (Instr.huntGoodFrame []).wf = false := by decide
theorem test_wf_gap : (Instr.frameGapTimeout (.replicate 43 ⟨0, false⟩)).wf = false := by decide
theorem test_wf_bad_short : (Instr.badFrame [⟨0, false⟩]).wf = false := by decide
theorem test_wf_bad_long : (Instr.badFrame (.replicate 44 ⟨0, false⟩)).wf = false := by decide
theorem test_wf_ignored_request : (Instr.ignoredFrame ⟨0x20, []⟩).wf = false := by decide
theorem test_wf_ignored_long : (Instr.ignoredFrame ⟨0x7F, .replicate 41 0⟩).wf = false := by decide
theorem test_wf_request_kind : (Instr.requestArrival ⟨0x2E, []⟩).wf = false := by decide
theorem test_wf_request_long : (Instr.requestArrival ⟨0x22, .replicate 41 0⟩).wf = false := by decide
theorem test_wf_edge : (Instr.tuneEdge 16777216).wf = false := by decide
theorem test_wf_good : (Instr.requestArrival ⟨0x2D, [1, 0]⟩).wf = true ∧ Instr.powerOn.wf = true := by decide

/-! ## The spec's worked examples -/

/-- R194: NOTE ON (channel 0, key 60, velocity 100) is 10H, 03H, 00H, 3CH, 64H, 4DH. -/
theorem test_frame_note_on : frameBytes ⟨0x10, [0, 60, 100]⟩ = [0x10, 0x03, 0x00, 0x3C, 0x64, 0x4D] := by decide

/-- Worked example of the fine latch: FINE (3, PM04, 17), then COARSE (3, PM04, 40), writes 2577 and empties the latch. -/
theorem test_fine_latch :
    let s := ready.withRouter { ready.router with zones := ready.router.zones.set 0 { Zone.default true with channel := 3, part := 2 } }
    let t := after (.controlCoarse 3 4 40) (after (.controlFine 3 4 17) s)
    t.params.values[(2 : PartId)][(4 : ParamId)] = 2577 ∧ t.router.latches[(3 : ChannelId)] = none ∧
      t.params.values[(0 : PartId)][(4 : ParamId)] = 4095 := by decide

/-- The limits of the range: D15 = 60000 and D16 = 64000 give 63998 at 32767; the nominal record gives 65533. -/
theorem test_convert_top :
    convert (.set (.replicate 17 60000) 16 64000) 32767 = 63998 ∧ convert (filterCodes CalRecord.powerOn) 32767 = 65533 := by decide

/-- Unison spread: with n = 4 and u = 128 the voices stand at −64, −21, +21 and +64; with n = 3 at −64, 0 and +64. -/
theorem test_unison_spread :
    [0, 1, 2, 3].map (fun i => unisonOffset 4 i 128) = [-64, -21, 21, 64] ∧ [0, 1, 2].map (fun i => unisonOffset 3 i 128) = [-64, 0, 64] := by
  decide

/-- Knob example, round 5: scaled value 597 and round 8: 613, for min 100 and max 1123. -/
theorem test_scaled_value :
    scaledValue { min := 100, max := 1123, routed := none } 1990 = 597 ∧ scaledValue { min := 100, max := 1123, routed := none } 2052 = 613 ∧
      pickupTolerance { min := 100, max := 1123, routed := none } 8 = 2 := by decide

/-- The examples of R151. -/
theorem test_merge_examples :
    let m (l : List GateCmd) (x : GateCmd) := (mergeCmd (l.map (⟨·, false⟩)) x).1.map (·.cmd)
    m [.on, .off] .on = [.off, .on] ∧ m [.on, .off] .damp = [.on, .damp] ∧ m [.damp, .on] .off = [.on, .off] := by decide

/-- The narrow search at BP9: the seed 36010, and the codes around the ones found. -/
theorem test_search_codes :
    let j : SourceJob := { voice := 3, source := .oscA, s0 := 512, tolShift := 10, first := 5, last := 14, old := validCal,
                           found := [21620, 25215, 28810, 32410], bp := 9, w := 1, t := 30578, code := 0, step := 0, limit := false,
                           verifying := false }
    let k := { j with found := [21620, 25215, 28810, 32410, 36213, 39830, 43460, 47100, 50760, 54430] }
    j.seed 9 = 36010 ∧ k.allCodes = [3645, 7240, 10835, 14430, 18025, 21620, 25215, 28810, 32410, 36213, 39830, 43460, 47100, 50760,
                                    54430, 58100, 61770] := by decide

/-- The burst against a full queue: a DROP is discarded with LOST, a CONTROL CHANGE is marked missed. -/
theorem test_full_queue :
    let l := { Link.powerOn with notices := .replicate 32 .silence }
    (placeNotice (.drop 1 1) l).lost = true ∧ (placeNotice (.drop 1 1) l).counters[(5 : Fin 16)] = 1 ∧
      (placeNotice (.controlChange 48 1200 false) l).missed = 1#96 <<< 48 := by decide

/-- A GATE ON frame of V9 and a SLOT WRITE of V4 slot 12 (R197). -/
theorem test_voice_link_bytes :
    (VlFrame.gate 9 .on).bytes = [0x19, 0, 0, 0] ∧ (VlFrame.slotWrite 4 12 0x1234).bytes = [0x04, 0x0C, 0x12, 0x34] := by decide

set_option maxRecDepth 8000 in
/-- A patch record of INIT is read back. -/
theorem test_patch_record :
    judgeRecord (patchBytes initName initValues) = .good ∧
      (staged? 9 (patchBytes initName initValues)).map (·.values) = some (mapVec (fun v => v.setWidth 16) initValues) := by decide

/-! ## Witnesses: for each statement with hypotheses, values that meet them -/

theorem witness_EmptyQueueIsOneTick :
    (State.reset.pending = [] ∧ State.reset.inReset = false) ∧
      ((after .resetPin State.reset).pending = [] ∧ (after .resetPin State.reset).inReset = true) := by decide

/-- The OK of a RESET FULL on EVOUT. -/
def fullOk : Response := { kind := 0x2D, tag := 7, result := .ok, data := [], fullReset := true }

theorem witness_ResetsGivePowerOnValues :
    let s := ready.withLink { ready.link with line := some (.response fullOk) }
    s.store.port.page? = none ∧ s.inReset = false ∧ s.link.line = some (.response fullOk) ∧ fullOk.fullReset = true := by decide

theorem witness_ResetPinHoldsThePart :
    (after .resetPin ready).inReset = true ∧ Instr.scanRound ≠ .powerOn ∧ Instr.scanRound ≠ .resetRelease ∧ ready.inReset = false := by
  decide

theorem witness_PointersAtResets :
    exec .powerOn ready = .next (after .powerOn ready) ∧ exec .resetVoices ready = .next (after .resetVoices ready) ∧
      exec .fullResetBegin (ready.withLink { ready.link with line := some (.response fullOk) }) =
        .next (after .fullResetBegin (ready.withLink { ready.link with line := some (.response fullOk) })) := ⟨rfl, rfl, rfl⟩

theorem lists_reset : VoiceListsOk State.reset.alloc := by constructor <;> decide

theorem pool_reset : HeldPoolOk State.reset.router := by constructor <;> decide

theorem witness_VoiceListsAreKept : VoiceListsOk State.reset.alloc ∧ step State.reset = .next (tick State.reset) := ⟨lists_reset, rfl⟩

theorem witness_HeldPoolIsKept : HeldPoolOk State.reset.router ∧ step State.reset = .next (tick State.reset) := ⟨pool_reset, rfl⟩

theorem witness_CommandListsAreKept : CommandListsOk State.reset.vlink ∧ step State.reset = .next (tick State.reset) :=
  ⟨by constructor <;> decide, rfl⟩

theorem witness_CapacitiesAreKept : WithinCapacities State.reset ∧ step State.reset = .next (tick State.reset) :=
  ⟨by constructor <;> decide, rfl⟩

theorem witness_UnusedMemoryIsKept : State.reset.store.mem.wf = true ∧ step State.reset = .next (tick State.reset) := ⟨rfl, rfl⟩

theorem witness_TablesChangeOnlyByWrites : writesTables .idleFrame = false ∧ exec .idleFrame ready = .next (after .idleFrame ready) :=
  ⟨rfl, rfl⟩

theorem witness_FramesAreReadBack : (Frame.fits ⟨0x22, .replicate 40 1⟩) = true := by decide

/-- IDLE as bytes, and a start that is bad in its check byte. -/
def idleBytes : List RxByte := rxBytes ⟨0, []⟩

theorem witness_HuntForAGoodFrame :
    State.reset.inReset = false ∧ State.reset.link.rx = .hunt ∧ judge (State.reset.link.held ++ idleBytes) = .good ⟨0, []⟩ 3 ∧
      judge (⟨1, false⟩ :: idleBytes) = .bad 3 ∧ judge [⟨1, false⟩] = .incomplete := by decide

theorem witness_BadFramesInLock :
    let bad : List RxByte := [⟨0, false⟩, ⟨41, false⟩]
    judge bad = .bad bad.length ∧ bad ≠ [] ∧ ready.inReset = false ∧ ready.link.rx = .locked ∧ ready.link.badRun < 2 ∧
      (ready.withLink { ready.link with badRun := 1 }).link.badRun < 2 ∧ 2 ≤ (ready.withLink { ready.link with badRun := 2 }).link.badRun ∧
      (ready.withLink { ready.link with rx := .candidate }).link.rx = .candidate := by decide

theorem acts_ready : actsOnFrames ready := ⟨rfl, .inl rfl⟩

theorem witness_IdleAndIgnoredFrames :
    actsOnFrames ready ∧ (Frame.fits ⟨0x30, []⟩ = true ∧ ignorable ⟨0x30, []⟩ = true) ∧
      (let s := ready.withLink { ready.link with rx := .candidate, lossFlag := true }
       s.inReset = false ∧ s.req.phase = .ready ∧ s.link.rx = .candidate ∧ s.link.lossFlag = true) := ⟨acts_ready, by decide, by decide⟩

theorem witness_RequestsJoinOrAreDropped :
    let f : Frame := ⟨0x20, [1]⟩
    let full (n : Nat) := ready.withLink { ready.link with requests := .replicate n f }
    (actsOnFrames (full 7) ∧ actsOnFrames (full 8)) ∧ ready.req.phase = .ready ∧ f.fits = true ∧ f.isRequest = true ∧
      (full 7).link.requests.length < 8 ∧ 8 ≤ (full 8).link.requests.length := ⟨⟨⟨rfl, .inl rfl⟩, ⟨rfl, .inl rfl⟩⟩, by decide⟩

/-- A response held for want of room. -/
def waiting : Response := { kind := 0x20, tag := 1, result := .ok, data := [], fullReset := false }

theorem witness_AnswersJoinOrAreHeld :
    let s := (asked ⟨0x20, [1]⟩ ready).withReq { phase := .ready, hand := .held waiting }
    (crowded s).link.requests = ⟨0x20, [1]⟩ :: [] ∧ ¬hasRoom (crowded s) ∧ hasRoom s ∧ s.inReset = false ∧ s.req.hand = .held waiting ∧
      s.link.requests = ⟨0x20, [1]⟩ :: [] ∧ waiting.fullReset = false := by
  unfold hasRoom; decide

theorem witness_OutboundLineAndRefills :
    let busy := ready.withLink { ready.link with line := some .idle, idleTimer := some 5 }
    (busy.inReset = false ∧ busy.link.line = some .idle ∧ okOfFullReset .idle = false ∧ busy.link.responses = [] ∧
      busy.link.notices = []) ∧
      ((busy.withLink { busy.link with notices := [.silence] }).link.notices = .silence :: [] ∧ busy.link.idleTimer ≠ none) ∧
      ((crowded ready).link.line = some .idle ∧ (crowded ready).link.responses ≠ [] ∧ ready.link.idleTimer ≠ none ∧
        ready.link.line = none) ∧
      (let s := (ready.withLink { ready.link with refillsDue := 1, missed := 3#96 <<< 94, notices := .replicate 31 .silence }).withPanel
          { ready.panel with states := ready.panel.states.set 94 { reported := some 9, runCount := 0 } }
       s.inReset = false ∧ 0 < s.link.refillsDue ∧ s.link.notices.length < 32 ∧
        s.link.missed.getLsbD (94 : ControlId).val = true ∧ (∀ d : ControlId, d < 94 → s.link.missed.getLsbD d.val = false) ∧
        s.panel.states[(94 : ControlId)].reported = some 9) ∧ ready.link.missed = 0 := by
  decide

theorem lists_voiced (st : VoiceState) : VoiceListsOk (voiced st).alloc := by cases st <;> constructor <;> decide

theorem pool_holding : HeldPoolOk (holding ready).router := by
  constructor
  · intro p e
    by_cases h : e = 0
    · subst h; revert p; decide
    · have : ∀ (p : PartId) (e : PoolPos), e ≠ 0 → e ∉ (holding ready).router.lists[p] ∧ (holding ready).router.pool[e] = none := by decide
      constructor
      · intro hm; exact absurd hm (this p e h).1
      · rintro ⟨x, hx, _⟩; rw [(this p e h).2] at hx; cases hx
  · decide

theorem witness_SilenceActionEndsTheNotes :
    let s := holding ((voiced .held).withLink { ready.link with silence := .running 1 })
    s.inReset = false ∧ s.req.phase = .ready ∧ s.link.silence = .running 1 ∧ HeldPoolOk s.router ∧ VoiceListsOk s.alloc :=
  ⟨rfl, rfl, rfl, pool_holding, lists_voiced .held⟩

theorem witness_ChannelEventsActOnListeners :
    actsOnFrames ready ∧ ready.req.phase = .ready ∧ listeners ready 0 = [0] ∧ (∀ v, soundsFor ready 0 v = false) ∧
      16383#16 ≤ 16383#16 ∧ 127 < (128#8).toNat ∧ 15 < (16#8).toNat ∧
      (let z := ready.withRouter { ready.router with zones := ready.router.zones.set 0 (Zone.default false) }
       ∀ i : Fin 8, z.router.zones[i].enabled = false) := ⟨acts_ready, by decide⟩

theorem witness_ControlFramesLatchAndWrite :
    let s := ready.withRouter { ready.router with latches := ready.router.latches.set 0 (some (47, 63)) }
    actsOnFrames s ∧ s.req.phase = .ready ∧ s.router.latches[(0 : ChannelId)] = some (47, 63) ∧
      (∀ low : Fin 64, s.router.latches[(0 : ChannelId)] ≠ some (0, low)) ∧ (47 < (48#8).toNat ∧ 63 < (64#8).toNat) :=
  ⟨⟨rfl, .inl rfl⟩, by decide⟩

theorem witness_SustainOffReleases :
    let s := voiced .sustained
    let t := s.withRouter { s.router with sustain := s.router.sustain.set 0 true }
    actsOnFrames t ∧ t.req.phase = .ready ∧ listeners t 0 = [0] ∧ VoiceListsOk t.alloc ∧ t.router.sustain[(0 : PartId)] = true ∧
      s.router.sustain[(0 : PartId)] = false ∧ (1 : Byte) ≠ 0 :=
  ⟨⟨rfl, .inl rfl⟩, rfl, by decide, lists_voiced .sustained, by decide⟩

/-- V0 IDLE, without an owner. -/
def resting : State := (voiced .idle).modVoice 0 (fun r => { r with owner := none })

theorem lists_resting : VoiceListsOk resting.alloc := by constructor <;> decide

theorem witness_NoteOnTakesAFreeVoice :
    let s := resting
    actsOnFrames s ∧ VoiceListsOk s.alloc ∧ s.req.phase = .ready ∧ 0 < (1 : Key).val ∧
      (∀ j : Fin 8, s.router.zones[j].hit 0 60 1 = true ↔ j = 0) ∧ s.router.zones[(0 : Fin 8)].part = 0 ∧
      s.router.zones[(0 : Fin 8)].sounding 60 = some 60 ∧ s.store.staging[(0 : PartId)] = none ∧ (s.part 0).mode = .poly ∧
      findEntry s 0 0 60 = none ∧ s.entry 0 = none ∧
      (∀ u : VoiceId, (s.voice u).owner = some 0 → (s.voice u).key = some 60 →
        (s.voice u).state ≠ .sustained ∧ (s.voice u).state ≠ .releasing) ∧
      ownedCount s 0 < (s.part 0).maxVoices ∧ s.alloc.freeQueue.find? (inPool s 0) = some 0 :=
  ⟨⟨rfl, .inl rfl⟩, lists_resting, by decide⟩

theorem pool_calm : HeldPoolOk (calm (holding (voiced .held))).router := ⟨pool_holding.listed, pool_holding.once⟩

theorem witness_NoteOffReleasesTheVoice :
    let s := calm (holding (voiced .held))
    let t := s.withRouter { s.router with sustain := s.router.sustain.set 0 true }
    actsOnFrames s ∧ s.req.phase = .ready ∧ HeldPoolOk s.router ∧ VoiceListsOk s.alloc ∧ s.entry 0 = some entry0 ∧ entry0.part = 0 ∧ entry0.channel = 0 ∧
      entry0.sourceKey = 60 ∧ entry0.state = .voiced ∧ entry0.voices = 1#16 <<< (0 : VoiceId).val ∧
      (s.part 0).mode = .poly ∧ (s.part 0).revive = false ∧ (s.voice 0).state = .held ∧ s.router.sustain[(0 : PartId)] = false ∧
      t.router.sustain[(0 : PartId)] = true ∧ (∀ f : PoolPos, s.entry f ≠ none → f = 0) :=
  ⟨⟨rfl, .inl rfl⟩, rfl, pool_calm, lists_voiced .held, by decide⟩

theorem witness_AllOffClearsAPart :
    let s := holding (voiced .held)
    actsOnFrames s ∧ s.req.phase = .ready ∧ listeners s 0 = [0] ∧ HeldPoolOk s.router ∧ VoiceListsOk s.alloc :=
  ⟨⟨rfl, .inl rfl⟩, rfl, by decide, pool_holding, lists_voiced .held⟩

theorem witness_PatchSelectRaisesARecall :
    let w := storing 4 ready
    let s := w.withStore { w.store with queue := w.store.queue.set 3 { op := .recallRead 0 5 .now, marked := false } }
    actsOnFrames ready ∧ ready.req.phase = .ready ∧ listeners ready 0 = [0] ∧ recallWaits s 0 = true ∧ 4 ≤ s.store.queue.length ∧
      (∀ q : PartId, (storing 3 ready).store.selects[q] = none) ∧ recallWaits (storing 3 ready) 0 = false ∧
      (storing 3 ready).store.queue.length < 4 ∧ recallWaits (storing 4 ready) 0 = false ∧ 4 ≤ (storing 4 ready).store.queue.length :=
  ⟨acts_ready, by decide⟩

/-- A damp end without a pending assignment, with VALID or VOID records, with a pending tuner, and a release end. -/
theorem witness_FreedVoicesSettle :
    let s := calm (voiced .damping)
    let r := calm (voiced .releasing)
    let t := (s.withTuner { s.tuner with cal := State.reset.tuner.cal }).modVoice 0 (fun r => { r with notified := true })
    (s.inReset = false ∧ s.tuner.run = none ∧ (s.voice 0).state = .damping ∧ (s.voice 0).damp = some 5 ∧ (s.voice 0).pending = .none ∧
      s.oscValid 0 = true ∧ (s.voice 0).notified = false ∧ ∀ p, (s.part p).revive = false) ∧
      ((t.voice 0).pending = .none ∧ t.oscValid 0 = false ∧ (t.voice 0).notified = true) ∧
      ((s.modVoice 0 (fun r => { r with pending := .tuner })).voice 0).pending = .tuner ∧
      ((r.voice 0).state = .releasing ∧ (r.voice 0).release = some 5 ∧ ∀ p, (r.part p).revive = false) := by
  decide

theorem witness_DampEndStartsTheNote :
    let s := holding ((voiced .damping).modVoice 0 (fun r => { r with pending := .entry 0 0 }))
    s.inReset = false ∧ (s.voice 0).state = .damping ∧ (s.voice 0).damp = some 5 ∧ (s.voice 0).pending = .entry 0 0 ∧
      s.entry 0 = some entry0 ∧ (s.part 0).mode = .poly := by decide

theorem witness_GlideStepsEachVoice :
    let s := (voiced .held).modVoice 0 (fun r => { r with q := some 12288 })
    let t := s.withPitch { s.pitch with glideTimer := some 1, target := s.pitch.target.set 0 (some 15360) }
    (t.inReset = false ∧ t.pitch.glideTimer = some 1 ∧ (t.voice 1).state.sounding = false) ∧
      (t.voice 0).state.sounding = true ∧ (t.voice 0).owner = some 0 ∧ (t.voice 0).key = some 60 ∧ (t.voice 0).vel = some 100 ∧
      (t.voice 0).q = some 12288 ∧ t.pitch.target[(0 : VoiceId)] = some (256 * 60 + scaleOffset t 0 60) ∧
      (12288 : Int) ≠ 256 * 60 + scaleOffset t 0 60 := by decide

theorem witness_ComputationSetsSlots :
    let s := voiced .held
    (s.voice 0).state.sounding = true ∧ (s.voice 0).owner = some 0 ∧ (s.voice 0).key = some 60 ∧ (s.voice 0).vel = some 100 ∧
      (s.voice 0).q = none ∧ (s.part 0).mode ≠ .unison := by decide

/-- C00 bound to PM00 of part 0 with PICKUP at a reported value, with a pickup table. -/
def picking (r : Word12) (l : List PickupEntry) : State :=
  let s := ready.withPanel { ready.panel with
    controls := ready.panel.controls.set 0 { ControlCfg.default with binding := some (0, 0), takeover := .pickup }
    states := ready.panel.states.set 0 { reported := some r, runCount := 0 } }
  s.withParams { s.params with pickup := l }

/-- PM00 is 2048 and the tolerance 8: 2056 is within it, 2057 is not; then a change to 2047 or 2049 that does not cross. -/
theorem witness_PickupFollowsTheControl :
    let e (c : ControlId) (x : Direction) : PickupEntry := { control := c, part := 0, param := 0, target := 2048, direction := x }
    let s := picking 2057 [e 0 .down]
    s.panel.controls[(0 : ControlId)].binding = some (0, 0) ∧ s.panel.controls[(0 : ControlId)].takeover = .pickup ∧
      s.panel.states[(0 : ControlId)].reported = some 2057 ∧ evaluate 0 (picking 2056 [e 0 .down]) = picking 2056 [] ∧
      evaluate 0 (picking 2057 []) = picking 2057 [e 0 .down] ∧ evaluate 0 (picking 2039 [e 0 .down]) = picking 2039 [e 0 .up] ∧
      (evaluate 0 (picking 2057 (.replicate 32 (e 1 .up)))).link.counters[(15 : Fin 16)] = 1 ∧
      acceptChange 0 2049 (picking 2049 [e 0 .down]) =
        (picking 2049 [e 0 .down]).withLink (noticedLink (.controlChange 0 2049 true) ready.link) ∧
      acceptChange 0 2047 (picking 2047 [e 0 .up]) =
        (picking 2047 [e 0 .up]).withLink (noticedLink (.controlChange 0 2047 true) ready.link) := by
  decide +kernel

/-- A first round with address 3 alone mapped, one with nothing mapped, and the settle at address 3. -/
theorem witness_ScanRoundOrder :
    let bare : Vector (Option ControlId) 96 := .replicate 96 none
    let s := ready.withPanel { ready.panel with scanMap := bare.set 19 (some 0), scanTimer := some 1 }
    let u := ready.withPanel { ready.panel with scanMap := bare, scanTimer := some 1 }
    let at3 (x : State) (m : Fin 16) (a : Fin 6) := (x.panel.scanMap[16 * a.val + m.val]'(by omega)).isSome
    (s.inReset = false ∧ s.panel.scanTimer = some 1 ∧ s.panel.round = .none ∧ at3 s 3 1 = true ∧ (∀ k < 3, ∀ b, at3 s k b = false) ∧
      (∀ b : Fin 6, b < 1 → at3 s 3 b = false)) ∧
      (∀ k b, at3 u k b = false) ∧ (s.withPanel { s.panel with round := .settling 3 }).panel.round = .settling 3 := by decide

theorem witness_KnobFilter :
    let c : ControlId := 0
    let k := { ControlCfg.default with deadBand := 8, persistence := 1 }
    let p (run : Nat) := { ready.panel with
      round := .converting 0 0, controls := ready.panel.controls.set 0 k
      states := ready.panel.states.set 0 { reported := some 2000, runCount := run } }
    let s (run : Nat) := ready.withPanel (p run)
    ((s 0).inReset = false ∧ (s 0).panel.round = .converting 0 0 ∧ (s 0).panel.scanMap[(0 : Fin 96)] = some c ∧
      (s 0).panel.scanMap[(16 : Fin 96)].isSome = true ∧ (s 0).panel.controls[c].type = .knob ∧
      (s 0).panel.states[c].reported = some 2000) ∧
      (max 2008 2000 - min 2008 2000 ≤ (s 0).panel.controls[c].deadBand.toNat) ∧
      ((s 0).panel.controls[c].deadBand.toNat < max 2009 2000 - min 2009 2000 ∧ (s 0).panel.states[c].runCount + 1 < 2) ∧
      (2 ≤ (s 1).panel.states[c].runCount + 1 ∧ (s 1).panel.controls[c].binding = none ∧ (s 1).panel.controls[c].report = true ∧
        (s 1).store.options.panelReport = true ∧ (s 1).req.phase = .ready) := by decide

theorem witness_SwitchFilterAndPriming :
    let sw (r : Option Word12) (run : Nat) := ready.withPanel { ready.panel with
      controls := ready.panel.controls.set 0 { ControlCfg.default with type := .switch, report := false }
      states := ready.panel.states.set 0 { reported := r, runCount := run } }
    (ready.panel.states[(0 : ControlId)].reported = none ∧ ready.panel.controls[(0 : ControlId)].type = .knob ∧
      ready.panel.controls[(0 : ControlId)].binding = none) ∧
      ((sw none 0).panel.states[(0 : ControlId)].reported = none ∧ (sw none 0).panel.controls[(0 : ControlId)].type = .switch ∧
        2867 ≤ (2867#12).toNat ∧ (1228#12).toNat ≤ 1228 ∧ (1228 < (1229#12).toNat ∧ (2866#12).toNat < 2867)) ∧
      ((sw (some 0) 1).panel.states[(0 : ControlId)].reported = some 0 ∧ (sw (some 0) 1).panel.states[(0 : ControlId)].runCount + 1 = 2 ∧
        (sw (some 4095) 0).panel.states[(0 : ControlId)].runCount + 1 < 2 ∧ (sw (some 0) 1).panel.controls[(0 : ControlId)].report = false) := by
  decide

theorem witness_ParameterWrite : ready.params.desc[(0 : ParamId)].min ≤ ready.params.desc[(0 : ParamId)].max := by decide

/-- The PATCH WRITE of INIT to slot 7, at the head of the queue. -/
def writeOp : StoreOp := .patchWrite 0 7 initValues initName 0

/-- With the port at work on that write. -/
def writing (p : Port) : State := ready.withStore { ready.store with queue := [{ op := writeOp, marked := false }], port := p }

theorem witness_StoreQueueMoves :
    let pendingOne (s : State) := s.withStore { s.store with
      selects := s.store.selects.set 2 (some { slot := 3, timing := .now, marked := true }) }
    ((writing .idle).inReset = false ∧ (writing .idle).store.port = .idle ∧ writeOp.image.isSome = true ∧
      (writing (.writing 1)).store.port = .writing 1) ∧
      ((storing 1 ready).store.port = .idle ∧ StoreOp.image (.recallRead 1 7 .now) = none ∧ StoreOp.recallRead 1 7 .now ≠ .calLoad) ∧
      ((pendingOne (storing 3 ready)).store.queue.length = 3 ∧ (pendingOne (storing 3 ready)).store.selects[(2 : PartId)] ≠ none ∧
        (∀ q : PartId, q < 2 → (pendingOne (storing 3 ready)).store.selects[q] = none) ∧
        4 ≤ (pendingOne (storing 4 ready)).store.queue.length) := by decide

set_option maxRecDepth 8000 in
theorem witness_PatchWritePages :
    let s := writing (.polling 1)
    s.inReset = false ∧ s.req.phase = .ready ∧ s.store.mem.wf = true ∧ s.store.memFitted = true ∧
      s.store.queue = { op := writeOp, marked := false } :: [] ∧ s.store.port = .polling 1 ∧
      (writing (.polling 0)).store.port = .polling 0 := by decide

set_option maxRecDepth 8000 in
theorem witness_PageTimeoutFails :
    let s := writing (.polling 1)
    s.inReset = false ∧ s.req.phase = .ready ∧ s.store.mem.wf = true ∧ 1 < 2 ∧ s.store.port = .polling 1 ∧
      s.store.queue = { op := writeOp, marked := false } :: [] := by decide

/-- A memory whose slot 7 holds INIT, with a NEXT NOTE recall of it being read. -/
def recalling (bytes : List Byte) : State :=
  ready.withStore { ready.store with
    mem := ready.store.mem.writeRun 0x1380 bytes, port := .reading
    queue := [{ op := .recallRead 0 7 .nextNote, marked := false }] }

theorem witness_RecallReadEnds :
    let s := recalling (patchBytes initName initValues)
    let b := s.store.readRun (0x1000 + 128 * (7 : Byte).toNat) 128
    let e := (recalling [0x5A, 2]).store.readRun (0x1000 + 128 * (7 : Byte).toNat) 128
    let d := (recalling []).store.readRun (0x1000 + 128 * (7 : Byte).toNat) 128
    (s.inReset = false ∧ s.req.phase = .ready ∧ s.store.port = .reading) ∧
      (b.head? = some 0x5A ∧ b[1]? = some 1 ∧ checkMatches b = true) ∧ (e.head? = some 0x5A ∧ e[1]? ≠ some 1) ∧ d.head? ≠ some 0x5A := by
  decide +kernel

theorem witness_NextNoteCommits :
    let r : Staged := { slot := 3, name := initName, values := .replicate 48 0xFFFF }
    let s := ready.withStore { ready.store with staging := ready.store.staging.set 0 (some r) }
    ready.store.staging[(0 : PartId)] = none ∧ s.inReset = false ∧ s.req.phase = .ready ∧ s.store.staging[(0 : PartId)] = some r ∧
      (∀ v, soundsFor s 0 v = false) ∧ (∀ c : ControlId, s.panel.controls[c].binding = none) := by decide

theorem witness_StartUpLoads :
    let s := State.reset.withStore { State.reset.store with port := .reading }
    let t := State.reset.withStore { State.reset.store with
      queue := [{ op := .calLoad, marked := false }]
      options := { SetupOptions.default with loadCal := false, tuneAtStart := .none } }
    (s.inReset = false ∧ s.store.queue = { op := .setupLoad, marked := false } :: [{ op := .calLoad, marked := false }] ∧
      s.store.port = .reading) ∧
      (t.inReset = false ∧ t.store.queue = [{ op := .calLoad, marked := false }] ∧ t.store.options.loadCal = false ∧
        t.store.options.tuneAtStart = .none ∧ t.store.options.startRecall = .replicate 4 none ∧ t.link.notices = [] ∧
        t.link.responses = [] ∧ t.link.line = none ∧ t.link.missed = 0) := by decide

theorem witness_StartUpLoads_bad_block : blockGood 0x5C (State.reset.store.readRun 0 2048) = false := by
  have h : slice 0 2 (State.reset.store.readRun 0 2048) = [0xFF, 0xFF] := by
    show ((Memory.readRun [] 0 2048).drop 0).take 2 = _
    rw [List.drop_zero, Memory.readRun, ← List.map_take, List.take_range]; rfl
  simp [blockGood, h]

theorem witness_GateCommandsMerge :
    (mergeCmd [⟨.off, false⟩] .damp).1.length = 1 ∧ (mergeCmd [⟨.off, false⟩] .on).1.length = 2 := by decide

/-- Every slot of the cards as it stands. -/
def clean (s : State) : State := s.withVlink { s.vlink with sent := mapVec (fun v => mapVec some v) s.pitch.slots }

/-- With V0's list and the queue. -/
def commanding (c : GateCmd) (s : State) : State :=
  s.withVlink { s.vlink with lists := s.vlink.lists.set 0 [⟨c, false⟩], queue := [0] }

theorem witness_SchedulerOrder :
    let c := commanding .on (clean ready)
    let d := commanding .on (clean ready) |>.withPitch { ready.pitch with slots := ready.pitch.slots.set 0 (.set (.replicate 32 0) 3 9) }
    (ready.inReset = false ∧ ready.vlink.line = none ∧ State.reset.vlink.mute = true ∧ ready.vlink.mute = false ∧
      (ready.withVlink { ready.vlink with latch := some .release }).vlink.latch = some .release) ∧
      (c.vlink.latch = none ∧ c.vlink.queue = 0 :: [] ∧ c.vlink.lists[(0 : VoiceId)] = ⟨.on, false⟩ :: [] ∧
        ∀ k : SlotId, k.val < 4 → c.vlink.sent[(0 : VoiceId)][k] = some c.pitch.slots[(0 : VoiceId)][k]) ∧
      ((commanding .off ready).vlink.lists[(0 : VoiceId)] = ⟨.off, false⟩ :: []) ∧
      (d.vlink.sent[(0 : VoiceId)][(3 : SlotId)] ≠ some d.pitch.slots[(0 : VoiceId)][(3 : SlotId)] ∧
        ∀ k : SlotId, k < 3 → d.vlink.sent[(0 : VoiceId)][k] = some d.pitch.slots[(0 : VoiceId)][k]) ∧
      (ready.vlink.queue = [] ∧ (ready.vlink.scanPtr.val + 1 + 0) % 512 = 0 ∧ ready.vlink.sent[(0 : VoiceId)][(0 : SlotId)] = none) ∧
      (∀ (v : VoiceId) (k : SlotId), (clean ready).vlink.sent[v][k] = some (clean ready).pitch.slots[v][k]) := by decide

theorem witness_SentFramesTakeEffect :
    let on (f : VlFrame) (s : State) := s.withVlink { s.vlink with line := some ⟨f, .live⟩ }
    (ready.inReset = false ∧ (on (.slotWrite 0 31 9) ready).vlink.line = some ⟨.slotWrite 0 31 9, .live⟩) ∧
      ((on (.gate 0 .off) ready).vlink.line = some ⟨.gate 0 .off, .live⟩ ∧ GateCmd.off ≠ .damp) ∧
      ((on (.gate 0 .damp) (voiced .damping)).vlink.line = some ⟨.gate 0 .damp, .live⟩ ∧ ((voiced .damping).voice 0).state = .damping) ∧
      (ready.voice 0).state ≠ .damping ∧
      ((on (.tune (.select 0 .oscB)) ready).vlink.line = some ⟨.tune (.select 0 .oscB), .live⟩ ∧
        (on (.tune .release) ready).vlink.line = some ⟨.tune .release, .live⟩ ∧ (on .allMute ready).vlink.line = some ⟨.allMute, .live⟩) := by
  decide

/-- In the SETUP phase, LOCKED, with a request at the head. -/
def early (f : Frame) : State := (asked f ready).withReq { phase := .setup, hand := .free }

theorem witness_BeforeReady :
    actsOnFrames (early ⟨0x21, []⟩) ∧ (early ⟨0x21, []⟩).req.phase ≠ .ready ∧ (early ⟨0x21, []⟩).req.hand = .free ∧
      (early ⟨0x21, []⟩).link.requests = ⟨0x21, []⟩ :: [] ∧ hasRoom (early ⟨0x21, []⟩) ∧ asksFull ⟨0x2D, [1, 0]⟩ = false ∧
      asksFull ⟨0x2D, [1, 1]⟩ = true := ⟨⟨rfl, .inl rfl⟩, by unfold hasRoom; decide⟩

theorem witness_StatusIsAnswered :
    let s := asked ⟨0x20, [1]⟩ ready
    s.inReset = false ∧ s.req.hand = .free ∧ s.link.requests = ⟨0x20, [1]⟩ :: [] ∧ (Frame.payload ⟨0x20, [1]⟩).length ≤ 1 ∧
      hasRoom s := by unfold hasRoom; decide

theorem executes_asked (f : Frame) : executes (asked f ready) f [] ∧ hasRoom (asked f ready) :=
  ⟨⟨rfl, rfl, rfl, rfl⟩, show 0 < 8 by decide⟩

/-- First index 16 with count 1 is the last TARGET entry, 17 is beyond it; 9 entries of 4 bytes fit, 10 do not. -/
theorem witness_TableReadAnswersEntries :
    let f : Frame := ⟨0x21, [1, 15, 16, 1]⟩
    executes (asked f ready) f [] ∧ hasRoom (asked f ready) ∧ f.payload = [1, 15, 16, 1] ∧ tableOf 17 = none ∧ tableOf 15 = some .target ∧
      Table.target.count ≤ 17 ∧ 16 < Table.target.count ∧ (9 * Table.target.size ≤ 36 ∧ 8 + 9 ≤ Table.target.count) ∧
      36 < 10 * Table.target.size ∧ Table.target.count < 16 + 2 := ⟨(executes_asked _).1, (executes_asked _).2, by decide⟩

theorem witness_TableWritesAreCheckedWhole :
    let f : Frame := ⟨0x22, 1 :: 0 :: 7 :: [1, 0, 0, 127, 1, 127, 3, 0]⟩
    let g : Frame := ⟨0x23, [1, 13, 0, 0, 0xFF, 0, 0, 5]⟩
    executes (asked f ready) f [] ∧ executes (asked g ready) g [] ∧ hasRoom (asked f ready) ∧ f.fits = true ∧ tableOf 0 = some .zone ∧
      tableOf 13 = some .options ∧ Table.zone.readOnly = false ∧ Table.voice.readOnly = true ∧ tableOf 4 = some .voice ∧
      (zone? [1, 0, 0, 127, 1, 127, 3, 0]).isSome = true ∧ zone? [2, 0, 0, 127, 1, 127, 3, 0] = none ∧
      (9 % Table.zone.size ≠ 0 ∧ Table.zone.count < 7 + 16 / Table.zone.size) ∧ (Table.options.count ≤ 1 ∧ Table.options.size ≤ 2 * 7) ∧
      (1 ≤ ready.store.options.dampTime ∧ ready.store.options.dampTime ≤ 15 ∧ 2 ≤ ready.store.options.scanPeriod ∧
        ready.store.options.scanPeriod ≤ 20) := ⟨(executes_asked _).1, (executes_asked _).1, (executes_asked _).2, by decide⟩

/-- A write of Z7 and a merge of the scan period, each answered OK. -/
theorem test_table_writes :
    let s := after .tableWrite (asked ⟨0x22, [1, 0, 7, 1, 0, 0, 127, 1, 127, 3, 0]⟩ ready)
    let t := after .tableMerge (asked ⟨0x23, [1, 13, 0, 0, 0xFF, 0, 0, 5]⟩ ready)
    (s.router.zones[(7 : Fin 8)].part = 3 ∧ s.router.zones[(7 : Fin 8)].enabled = true ∧ s.link.requests = []) ∧
      t.store.options = { SetupOptions.default with scanPeriod := 5 } := by decide

theorem witness_StoreRequestsArePlacedOrBusy :
    let f : Frame := ⟨0x24, [1, 0, 9, 1]⟩
    executes (asked f (storing 3 ready)) f [] ∧ hasRoom (asked f (storing 3 ready)) ∧ recallWaits (asked f (storing 3 ready)) 0 = false ∧
      (storing 3 ready).store.queue.length < 4 ∧ (∀ q : PartId, (storing 3 ready).store.selects[q] = none) ∧
      4 ≤ (storing 4 ready).store.queue.length ∧ recallWaits (asked f (storing 4 ready)) 0 = false :=
  ⟨⟨rfl, rfl, rfl, rfl⟩, by unfold hasRoom; decide⟩

/-- A BACKGROUND run over V0, all three sources. -/
def run0 (m : RunMode) : Run :=
  { origin := .host, mode := m, voices := 1, sources := 7, notDone := 1, current := none, passed := 0, failed := 0, aborted := false }

theorem witness_TuneRequests :
    let f : Frame := ⟨0x28, [1, 0, 1, 7, 1]⟩
    let s := asked f ready
    let r := s.withTuner { s.tuner with run := some (run0 .background) }
    executes s f [] ∧ hasRoom s ∧ ((0 : Byte) ++ (1 : Byte) : Word) ≠ 0 ∧ (7 : Byte) ≠ 0 ∧ (7 : Byte).toNat ≤ 7 ∧ (1 : Byte).toNat ≤ 1 ∧
      ((0 : Byte) ++ (0 : Byte) : Word) = 0 ∧ 1 < (2 : Byte).toNat ∧ s.tuner.run = none ∧ s.tuner.check = none ∧ r.tuner.run ≠ none ∧
      r.tuner.check = none ∧ r.tuner.job = none ∧ (∀ v : VoiceId, (r.voice v).state ≠ .tuning ∧ (r.voice v).pending ≠ .tuner) :=
  ⟨(executes_asked _).1, (executes_asked _).2, by decide⟩

theorem witness_Barriers :
    let f : Frame := ⟨0x2B, [1]⟩
    let s := asked f ready
    let h (x : Hand) (u : State) := u.withReq { u.req with hand := x }
    let q := storing 1 s
    let marked := q.withStore { q.store with queue := q.store.queue.map (fun e => { e with marked := true }) }
    let listed := (commanding .on s).withVlink { (commanding .on s).vlink with lists := s.vlink.lists.set 0 [⟨.on, true⟩] }
    (s.inReset = false ∧ s.req.phase = .ready ∧ s.link.requests = f :: [] ∧ hasRoom s ∧ f.payload.length ≤ 1 ∧ s.req.hand = .free) ∧
      (s.store.queue = [] ∧ (∀ p : PartId, s.store.selects[p] = none) ∧ q.store.queue ≠ []) ∧
      ((∀ (v : VoiceId) (k : SlotId), (clean s).vlink.sent[v][k] = some (clean s).pitch.slots[v][k]) ∧
        (∀ v : VoiceId, (clean s).vlink.lists[v] = []) ∧ s.vlink.sent[(0 : VoiceId)][(0 : SlotId)] = none) ∧
      (storeMarksRemain marked.store = true ∧ storeMarksRemain s.store = false ∧ (h (.barrier true false) s).req.hand = .barrier true false) ∧
      (marksRemain listed.vlink = true ∧ marksRemain s.vlink = false) := by
  unfold hasRoom; decide

theorem witness_CounterSnapshot :
    let f : Frame := ⟨0x2C, [1, 1]⟩
    executes (asked f ready) f [] ∧ hasRoom (asked f ready) ∧ f.payload = [1, 1] ∧ 1 < (2 : Byte).toNat :=
  ⟨(executes_asked _).1, (executes_asked _).2, by decide⟩

theorem witness_ResetRequests :
    let f : Frame := ⟨0x2D, [1, 0]⟩
    executes (asked f ready) f [] ∧ hasRoom (asked f ready) ∧ f.payload = [1, 0] ∧ (asked f ready).tuner.run = none ∧
      (asked f ready).tuner.job = none ∧ (asked f ready).tuner.check = none ∧ 1 < (2 : Byte).toNat :=
  ⟨(executes_asked _).1, (executes_asked _).2, by decide⟩

/-- A measurement of V0's OSC A at code 0. -/
def meas0 : Measurement := { voice := 0, source := .oscA, code := 0, w := 2, settleTicks := 32000, timeoutTicks := 800000 }

/-- A FORCED run over V0, which is TUNING. -/
def forced : State := (voiced .tuning).withTuner { tuned.tuner with run := some (run0 .forced) }

/-- With the counter in a state. -/
def measuring (c : CounterState) (s : State) : State := s.withTuner { s.tuner with meas := some meas0, counter := c }

theorem witness_MeasurementStages :
    let s := measuring .idle (clean forced)
    let held := s.withVlink { s.vlink with cardSel := some (0, .oscA) }
    let settling := s.withTuner { s.tuner with settle := some 1 }
    (forced.inReset = false ∧ forced.tuner.run = some (run0 .forced) ∧ (run0 .forced).mode = .forced ∧ forced.tuner.job = none ∧
      (run0 .forced).sources.getLsbD 0 = true ∧ (run0 .forced).notDone.getLsbD (0 : VoiceId).val = true ∧
      (forced.voice 0).state = .tuning ∧ (forced.cal 0 .oscA).valid = true ∧ forced.tuner.cfg.firstBp ≤ 16) ∧
      (held.tuner.meas = some meas0 ∧ held.tuner.counter = .idle ∧ held.tuner.settle = none ∧
        held.vlink.cardSel = some (meas0.voice, meas0.source) ∧ held.vlink.sent[meas0.voice][meas0.source.slot] = some meas0.code ∧
        s.vlink.cardSel ≠ some (meas0.voice, meas0.source)) ∧
      settling.tuner.settle = some 1 ∧ (measuring .armed forced).tuner.counter = .armed ∧
      ((measuring .counting forced).tuner.counter = .counting ∧ (measuring .counting forced).tuner.count + 16777214 < 16777215 ∧
        (measuring .counting forced).tuner.edges + 1 < meas0.w) := by decide

/-- A search of V0's OSC A at BP9. -/
def job0 : SourceJob :=
  { voice := 0, source := .oscA, s0 := 512, tolShift := 10, first := 5, last := 14, old := validCal, found := [], bp := 9, w := 2,
    t := 30578, code := 36010, step := 512, limit := false, verifying := false }

/-- Searching, while the counter counts its last period. -/
def searching : State :=
  (measuring .counting forced).withTuner { (measuring .counting forced).tuner with job := some job0, edges := 1 }

theorem witness_AdjustingMeasurements :
    searching.inReset = false ∧ searching.tuner.meas = some meas0 ∧ searching.tuner.counter = .counting ∧
      searching.tuner.job = some job0 ∧ job0.verifying = false ∧ 1 < job0.step ∧ meas0.w ≤ searching.tuner.edges + 1 ∧
      (searching.tuner.count + 31390 < 16777215 ∧ job0.t < searching.tuner.count + 31390) ∧ searching.tuner.count + 29342 < job0.t := by
  decide

/-- The first two rows of the search at BP9: a higher count raises the code by 512, a lower one lowers it. -/
theorem test_search_rows :
    (after (.tuneEdge 31390) searching).tuner.job.map (·.code) = some 36522 ∧
      (after (.tuneEdge 29342) searching).tuner.job.map (·.code) = some 35498 := by decide

theorem witness_NoSignalVoidsTheRecord :
    searching.inReset = false ∧ (searching.tuner.counter = .armed ∨ searching.tuner.counter = .counting) ∧
      searching.tuner.job = some job0 ∧ job0.source = .oscA ∧ (searching.voice job0.voice).state = .tuning ∧
      searching.tuner.run = some (run0 .forced) ∧ (run0 .forced).sources.getLsbD 1 = true := by decide

theorem witness_DriftWatch :
    let s := resting.withTuner { resting.tuner with driftTimer := some 1 }
    let r := s.withTuner { s.tuner with run := some (run0 .background) }
    let d := s.withTuner { s.tuner with retuneDue := true, retuneSet := 1 }
    (r.inReset = false ∧ r.tuner.driftTimer = some 1 ∧ r.tuner.run ≠ none) ∧
      (s.tuner.run = none ∧ s.tuner.check = none ∧ (0 : VoiceId).val = (s.tuner.lastChecked.val + 1) % 16 ∧
        (s.voice 0).state = .idle ∧ (s.cal 0 .oscA).valid = true) ∧
      (d.tuner.retuneDue = true ∧ d.tuner.retuneSet ≠ 0 ∧ d.tuner.run = none ∧ d.tuner.check = none) := by decide

/-! ## Witnesses of the further clauses of the statements above, clause by clause -/

/-- With part 0's settings changed. -/
def parted (f : PartCfg → PartCfg) (s : State) : State := s.withRouter { s.router with parts := s.router.parts.set 0 (f (s.part 0)) }

/-- With V1 in a state, owned by part 0 with a key, a velocity and a pending assignment, at the tail of the list of its state. -/
def second (st : VoiceState) (key vel : Key) (pend : Pending) (s : State) : State :=
  let r := { s.voice 1 with state := st, owner := some 0, key := some key, vel := some vel, pending := pend }
  let last (b : Bool) : List VoiceId := if b then [1] else []
  s.withAlloc { s.alloc with
    voices := s.alloc.voices.set 1 r
    gateList := s.alloc.gateList ++ last (decide (st = .held) || decide (st = .sustained))
    releaseList := s.alloc.releaseList ++ last (decide (st = .releasing)) }

/-- With a WAITING entry of a key at pool position 1, at the tail of part 0's list. -/
def alsoHolding (key : Key) (s : State) : State :=
  s.withRouter { s.router with
    pool := s.router.pool.set 1 (some { entry0 with sourceKey := key, soundingKey := key, state := .waiting, voices := 0 })
    lists := s.router.lists.set 0 (s.partList 0 ++ [1]) }

/-- V0 HELD for key 60, and key 70 pressed after it, part 0 a UNISON part of a priority. -/
def grouped (x : NotePriority) : State :=
  parted (fun c => { c with mode := .unison, priority := x }) (alsoHolding 70 (holding (voiced .held)))

theorem witness_HuntForAGoodFrame_gap (i : Nat) (f : Frame) (n : Nat) :
    judge ((State.reset.link.held ++ [(⟨1, false⟩ : RxByte)]).drop i) ≠ .good f n := by
  have one : judge ([(⟨1, false⟩ : RxByte)].drop 0) = .incomplete := by decide
  have none (k : Nat) : judge (([(⟨1, false⟩ : RxByte)]).drop (k + 1)) = .incomplete := by simp; decide
  show judge (([(⟨1, false⟩ : RxByte)]).drop i) ≠ _
  cases i with
  | zero => rw [one]; exact nofun
  | succ k => rw [none]; exact nofun

theorem witness_AnswersJoinOrAreHeld_full_reset :
    let s := (asked ⟨0x2D, [1, 1]⟩ ready).withReq { phase := .ready, hand := .held fullOk }
    hasRoom s ∧ s.inReset = false ∧ s.req.hand = .held fullOk ∧ s.link.requests = ⟨0x2D, [1, 1]⟩ :: [] ∧ fullOk.fullReset = true ∧
      (after .responseJoin s).req.hand = .fullReset := by unfold hasRoom; decide

/-- A merge in the middle of the queue, the tail of a queue with one place left, and a full queue. -/
theorem witness_OutboundLineAndRefills_placement :
    let q : List Notice := [.silence] ++ .drop 1 254 :: [.silence]
    let c : Notice := .controlChange 95 9 false
    (Notice.sameKey (.drop 1 1) (.drop 1 254) = true ∧ ∀ x ∈ [Notice.silence] ++ [.silence], Notice.sameKey (.drop 1 1) x = false) ∧
      (placeNotice (.drop 1 1) { Link.powerOn with notices := q }).notices = [.silence, .drop 1 255, .silence] ∧
      (∀ m ∈ List.replicate 31 Notice.silence, c.sameKey m = false) ∧ (List.replicate 31 Notice.silence).length < 32 ∧
      32 ≤ (List.replicate 32 Notice.silence).length ∧ (∀ m ∈ List.replicate 32 Notice.silence, Notice.sameKey (.link 1) m = false) ∧
      State.reset.req.phase ≠ .ready := by decide

/-- A waiting recall in a queue with room. -/
theorem witness_PatchSelectRaisesARecall_room :
    let s := ready.withStore { ready.store with queue := [⟨.setupLoad, false⟩, ⟨.recallRead 0 5 .now, false⟩] }
    actsOnFrames s ∧ listeners s 0 = [0] ∧ recallWaits s 0 = true ∧ s.store.queue.length < 4 ∧ ∀ q : PartId, s.store.selects[q] = none :=
  ⟨⟨rfl, .inl rfl⟩, by decide⟩

/-- A note on: every staging buffer empty, a full pool, the entry of the key already held, and the second key of a MONO part. -/
theorem witness_NoteOnTakesAFreeVoice_press :
    let other : HeldEntry := { entry0 with part := 3, channel := 9 }
    let full := ready.withRouter { ready.router with pool := .replicate 32 (some other) }
    let held := holding (voiced .held)
    let waits := held.withRouter { held.router with pool := held.router.pool.set 0 (some { entry0 with state := .waiting, voices := 0 }) }
    let mono := parted (fun c => { c with mode := .mono }) held
    (∀ p : PartId, ready.store.staging[p] = none) ∧ (findEntry full 0 0 60 = none ∧ ∀ f : PoolPos, full.entry f ≠ none) ∧
      (findEntry held 0 0 60 = some 0 ∧ held.entry 0 = some entry0 ∧ entry0.state = .voiced ∧ (held.part 0).mode = .poly) ∧
      findEntry waits 0 0 60 = some 0 ∧
      (findEntry mono 0 0 61 = none ∧ mono.entry 1 = none ∧ (∀ f : PoolPos, f < 1 → mono.entry f ≠ none) ∧ (mono.part 0).mode ≠ .poly ∧
        soundingEntry mono 0 = some 0 ∧ soundingEntry (alsoHolding 61 mono) 0 = some 1) ∧
      (parted (fun c => { c with mode := .mono }) ready).partList 0 = [] ∧
      (∀ p, soundingEntry (grouped p) 0 = some (if p = .low then 0 else 1)) := by
  refine ⟨by decide, by decide, by decide, by decide, by decide, by decide, ?_⟩
  intro p; cases p <;> decide

/-- Same-key reuse of a SUSTAINED and of a RELEASING voice. -/
theorem witness_NoteOnTakesAFreeVoice_reuse :
    let tail (st : VoiceState) (s : State) (u : VoiceId) :=
      decide ((s.voice u).owner = some 0) && decide ((s.voice u).key = some 60) && decide ((s.voice u).state = st)
    let a := alsoHolding 60 (voiced .sustained)
    let b := alsoHolding 60 (voiced .releasing)
    a.entry 1 ≠ none ∧ a.alloc.gateList.find? (tail .sustained a) = some 0 ∧ b.alloc.gateList.find? (tail .sustained b) = none ∧
      b.alloc.releaseList.find? (tail .releasing b) = some 0 := by decide

/-- Key 70 waits for a voice: none of part 0's tails is on it, no voice is free. At its maximum part 0 damps its RELEASING voice, else it
steals V0 before V1 as OLDEST, and V1 for its lower velocity as QUIETEST; a lone TUNING voice leaves nothing to take. -/
theorem witness_NoteOnTakesAFreeVoice_steal :
    let s := second .held 61 99 .none (alsoHolding 70 (voiced .held))
    let quiet := parted (fun c => { c with steal := .quietest }) s
    let release := parted (fun c => { c with maxVoices := 1 }) (alsoHolding 70 (voiced .releasing))
    let none' := alsoHolding 70 (voiced .tuning)
    (s.entry 1 ≠ none ∧ (s.part 0).mode = .poly ∧ (∀ u : VoiceId, (s.voice u).owner = some 0 → (s.voice u).key ≠ some 70) ∧
      s.alloc.freeQueue = [] ∧ ¬(s.part 0).maxVoices ≤ ownedCount s 0 ∧ s.alloc.releaseList = []) ∧
      (s.alloc.gateList = [] ++ 0 :: [1] ∧ (s.voice 0).state = .held ∧ (s.voice 0).owner = some 0 ∧ (s.part 0).pool.getLsbD 0 = true ∧
        stealVictim s 0 = some 0) ∧
      (quiet.alloc.gateList = [0] ++ 1 :: [] ∧ velOf quiet 1 < velOf quiet 0 ∧ stealVictim quiet 0 = some 1) ∧
      ((release.part 0).maxVoices ≤ ownedCount release 0 ∧ release.alloc.releaseList = [] ++ 0 :: [] ∧ (release.voice 0).owner = some 0) ∧
      (none'.alloc.gateList = [] ∧ none'.alloc.releaseList = [] ∧ none'.alloc.freeQueue = [] ∧ (none'.part 0).revive = true ∧
        ((calm none').part 0).revive = false ∧ ready.req.phase = .ready) ∧
      ((resting.alloc.freeQueue.find? (fun u => (resting.part 0).pool.getLsbD u.val) = some 0) ∧
        ¬(resting.part 0).maxVoices ≤ ownedCount resting 0) := by decide

/-- V0 taken from the entry it is HELD for: alone, and in a group of two. -/
theorem witness_NoteOnTakesAFreeVoice_taken :
    let s := holding (voiced .held)
    let two := second .held 60 100 .none s
    let both := two.withRouter { two.router with pool := two.router.pool.set 0 (some { entry0 with voices := 3 }) }
    (s.voice 0).state = .held ∧ (s.voice 0).owner = some 0 ∧ s.entry 0 = some entry0 ∧ entry0.part = 0 ∧ entry0.state = .voiced ∧
      entry0.voices.getLsbD 0 = true ∧ (∀ f : PoolPos, s.entry f ≠ none → f = 0) ∧ (s.part 0).mode = .poly ∧
      entry0.voices &&& ~~~ (1#16 <<< 0) = 0 ∧ ((parted (fun c => { c with mode := .unison }) both).part 0).mode ≠ .poly ∧
      both.entry 0 = some { entry0 with voices := 3 } ∧ (3#16) &&& ~~~ (1#16 <<< 0) ≠ 0 := by decide

/-- A WAITING entry with a voice damping toward it, a transfer, the second and the last key of a UNISON part. -/
theorem witness_NoteOffReleasesTheVoice_other :
    let waits := alsoHolding 70 (second .damping 70 1 (.entry 0 1) (holding (voiced .held)))
    let s := alsoHolding 70 (holding (voiced .held))
    let a := s.withRouter (s.router.without 0 0)
    let last := parted (fun c => { c with mode := .unison }) (holding (voiced .held))
    (findEntry ready 0 0 60 = none) ∧
      (findEntry waits 0 0 70 = some 1 ∧ (waits.voice 1).state = .damping ∧ (waits.voice 1).pending = .entry 0 1) ∧
      (findEntry s 0 0 60 = some 0 ∧ s.entry 0 = some entry0 ∧ s.router.sustain[(0 : PartId)] = false ∧ (s.part 0).revive = true ∧
        a.partList 0 = [] ++ 1 :: [] ∧ (a.entry 1).map (·.state) = some .waiting ∧
        (∀ v : VoiceId, (a.voice v).state = .damping → (a.voice v).pending ≠ .entry 0 1) ∧ 0 ∈ s.alloc.gateList) ∧
      (soundingEntry (grouped .last) 0 = some 1 ∧
        soundingEntry ((grouped .last).withRouter ((grouped .last).router.without 0 1)) 0 = some 0 ∧
        findEntry (grouped .last) 0 0 70 = some 1) ∧
      ((last.withRouter (last.router.without 0 0)).partList 0 = [] ∧
        ∀ u : VoiceId, (1#16).getLsbD u.val = true → (last.voice u).state = .held) := by decide

/-- Changes of part 0: structural, of the priority with and without another sounding entry, and of the scale. -/
theorem witness_AllOffClearsAPart_part :
    let s := grouped .last
    let old := s.part 0
    let stored (c : PartCfg) := s.withRouter { s.router with parts := s.router.parts.set 0 c }
    HeldPoolOk (holding ready).router ∧ (old.mode ≠ { old with mode := .poly }.mode ∧ soundsFor s 0 0 = true) ∧
      (soundingEntry (stored { old with priority := .high }) 0 = soundingEntry s 0) ∧
      (soundingEntry s 0 = some 1 ∧ soundingEntry (stored { old with priority := .low }) 0 = some 0 ∧ old.mode ≠ .poly) ∧
      old.scale ≠ { old with scale := 3 }.scale := ⟨pool_holding, by decide⟩

/-- A BACKGROUND run that wants the freed voice; the revival arbiter with a WAITING entry in POLY and a group of one in UNISON; a BENCHED
condition told or not. -/
theorem witness_FreedVoicesSettle_taken :
    let r := voiced .releasing
    let run := r.withTuner { r.tuner with run := some (run0 .background) }
    let poly := alsoHolding 70 (resting)
    let uni := parted (fun c => { c with mode := .unison, unisonCount := 2 }) (holding (voiced .held))
    ((run0 .background).mode = .background ∧ (run0 .background).notDone.getLsbD 0 = true ∧ (run0 .background).current = none ∧
      run.tuner.run = some (run0 .background) ∧ (run.voice 0).state = .releasing ∧ (run.voice 0).release = some 5) ∧
      (eligible poly 0 0 = true ∧ (∀ q, eligible poly 0 q = true → q = 0) ∧ (poly.part 0).mode = .poly ∧ poly.partList 0 = [] ++ 1 :: [] ∧
        (poly.entry 1).map (·.state) = some .waiting ∧ ∀ v : VoiceId, (poly.voice v).state ≠ .damping) ∧
      (eligible uni 1 0 = true ∧ soundingEntry uni 0 = some 0 ∧ ∀ q, eligible uni 1 q = true → q = 0) ∧
      (∀ q, eligible ready 0 q = false) ∧
      (resting.oscValid 0 = true ∧ ready.oscValid 0 = false ∧ (resting.voice 0).notified = false ∧ (ready.voice 0).notified = true) := by
  decide

theorem witness_DampEndStartsTheNote_groups :
    let s := grouped .last
    let m := parted (fun c => { c with mode := .mono }) (holding ((voiced .damping).modVoice 0 (fun r => { r with pending := .entry 0 0 })))
    let free := parted (fun c => { c with mode := .unison, unisonCount := 2 }) (alsoHolding 70 resting)
    (m.entry 0 = some entry0 ∧ (m.part 0).mode ≠ .poly ∧ VoiceListsOk (voiced .damping).alloc) ∧
      (s.partList 0 = [0] ++ 1 :: [] ∧ (s.part 0).priority = .last ∧ (grouped .low).partList 0 = [] ++ 0 :: [1] ∧
        ((grouped .low).part 0).priority = .low ∧ keyAt (grouped .low) 0 < keyAt (grouped .low) 1 ∧ ((grouped .high).part 0).priority = .high) ∧
      ready.partList 0 = [] ∧
      (groupCount free 0 1 < 2 ∧ (acquireOne 0 1 free).isSome = true ∧ acquireOne 0 0 ready = none ∧ 1 ≤ groupCount s 0 0) ∧
      (s.entry 1 ≠ none ∧ (0 : PoolPos) ≠ 1 ∧ (1#16) ≠ 0 ∧
        ∀ v : VoiceId, (1#16).getLsbD v.val = true → v ∈ s.alloc.gateList ∧ (s.voice v).state = .held) ∧
      s.entry 0 = some entry0 :=
  ⟨⟨by decide, by decide, lists_voiced .damping⟩, by decide⟩

/-- Voices of a UNISON part, and a VALID and a VOID record. -/
theorem witness_ComputationSetsSlots_unison :
    let s := (grouped .last).withPitch { (grouped .last).pitch with unisonSize := (grouped .last).pitch.unisonSize.set 0 8 }
    (s.voice 0).state.sounding = true ∧ (s.part 0).mode = .unison ∧ 2 ≤ s.pitch.unisonSize[(0 : VoiceId)] ∧ validCal.valid = true ∧
      CalRecord.powerOn.valid = false := by decide

/-- A change that crosses upward at the target and one that stops short of it; CONTROL writes that bind, unbind and turn a KNOB to a
SWITCH. -/
theorem witness_PickupFollowsTheControl_change :
    let e : PickupEntry := { control := 0, part := 0, param := 0, target := 2048, direction := .up }
    let s := picking 2039 [e]
    let bound : ControlCfg := { ControlCfg.default with binding := some (0, 0), takeover := .pickup }
    s.params.pickup.find? (fun e => e.control = 0) = some e ∧ s.panel.controls[(0 : ControlId)].report = true ∧
      s.store.options.panelReport = true ∧ s.req.phase = .ready ∧ pickupOf (acceptChange 0 2048 s) 0 = none ∧
      pickupOf (acceptChange 0 2047 s) 0 = some e ∧
      ((writeControl 1 bound s).panel.controls[(0 : ControlId)]).binding = none ∧ pickupOf (writeControl 1 bound s) 0 = none ∧
      pickupOf (writeControl 0 { bound with takeover := .jump } s) 0 = none ∧ pickupOf (writeControl 0 bound s) 0 = some e ∧
      ((writeControl 0 { bound with type := .switch } s).panel.states[(0 : ControlId)]).reported = some 0 := by
  decide +kernel

/-- Entry 19 already names C19; C19 goes to entry 0. -/
theorem witness_ScanRoundOrder_map :
    ready.panel.scanMap[(19 : Fin 96)] = some 19 ∧ ready.panel.scanMap[(0 : Fin 96)] ≠ some 19 ∧
      (writeScanEntry 0 (some 19) ready).panel.scanMap[(19 : Fin 96)] = none := by decide

/-- PM11 takes slot 31 from PM38, leaving slot 4; PM04 is held to 100..200, below its value 4095. -/
theorem witness_ParameterWrite_descriptor :
    let d : Descriptor := Descriptor.toSlot 31
    let k : Descriptor := { min := 100, max := 200, routed := none }
    let s := picking 2057 []
    let b := s.withPanel { s.panel with controls := s.panel.controls.set 0 { ControlCfg.default with binding := some (0, 4), takeover := .pickup } }
    (ready.params.desc[(11 : ParamId)].min = d.min ∧ ready.params.desc[(11 : ParamId)].max = d.max ∧
      ready.params.desc[(11 : ParamId)].routed = some 4 ∧ ready.params.desc[(38 : ParamId)].routed = d.routed ∧
      (∀ m : ParamId, m ≠ 11 → ready.params.desc[m].routed ≠ some 4)) ∧
      (b.params.desc[(4 : ParamId)].routed = k.routed ∧ k.min ≤ k.max ∧ b.params.desc[(4 : ParamId)].min ≠ k.min ∧
        b.panel.controls[(0 : ControlId)].binding = some (0, 4) ∧ b.panel.states[(0 : ControlId)].reported = some 2057 ∧
        ∀ c : ControlId, b.panel.controls[c].binding = some (0, 4) → c = 0) := by decide

/-- The last page of a SETUP SAVE and of a CAL SAVE. -/
theorem witness_PatchWritePages_saves :
    let s (op : StoreOp) := ready.withStore { ready.store with queue := [{ op := op, marked := false }], port := .polling 31 }
    let a := s (.setupSave (setupTables ready))
    let b := s (.calSave tuned.tuner.cal)
    (a.store.queue = { op := .setupSave (setupTables ready), marked := false } :: [] ∧ a.store.port = .polling 31 ∧ 31 < 32) ∧
      b.store.queue = { op := .calSave tuned.tuner.cal, marked := false } :: [] ∧ a.store.memFitted = true ∧ b.store.mem.wf = true := by
  refine ⟨⟨rfl, rfl, by decide⟩, rfl, rfl, rfl⟩

/-- A block of marker, format, zeros and check. -/
def block (marker : Byte) : List Byte := withCheck (padTo 2046 [marker, 1])

/-- With bytes at an address of the serial memory, being read. -/
def loading (base : Nat) (bytes : List Byte) : State :=
  State.reset.withStore { State.reset.store with mem := Memory.writeRun [] base bytes, port := .reading }

theorem length_block (marker : Byte) : (block marker).length = 2048 := by
  have h : ([marker, 1] : List Byte).length ≤ 2046 := Nat.le_of_ble_eq_true rfl
  rw [block, length_withCheck, length_padTo h]

theorem loading_reads (base : Nat) (bytes : List Byte) (hl : bytes.length = 2048) (h : base + 2048 ≤ 65536) :
    (loading base bytes).store.readRun base 2048 = bytes := by
  have := Memory.readRun_writeRun (a := base) (m := []) (bytes := bytes) rfl (by omega)
  rw [hl] at this
  exact this

theorem checkMatches_withCheck (l : List Byte) : checkMatches (withCheck l) = true := by
  have h : (withCheck l).length - 2 = l.length := by rw [length_withCheck]; omega
  rw [checkMatches, h]
  simp [withCheck]

theorem block_good (marker : Byte) : blockGood marker (block marker) = true := by
  rw [blockGood, block, checkMatches_withCheck]
  exact Bool.and_true _ ▸ decide_eq_true rfl

theorem witness_StartUpLoads_good_blocks :
    (blockGood 0x5C ((loading 0 (block 0x5C)).store.readRun 0 2048) = true ∧
        blockGood 0x5D ((loading 0x800 (block 0x5D)).store.readRun 0x800 2048) = true) ∧
      ∀ base l, (loading base l).store.options.loadCal = true ∧ (loading base l).store.port = .reading ∧
        (loading base l).alloc.freeQueue = [] ∧ (loading base l).alloc.gateList = [] := by
  refine ⟨⟨?_, ?_⟩, fun _ _ => ⟨rfl, rfl, rfl, rfl⟩⟩
  · rw [loading_reads _ _ (length_block _) (by decide)]; exact block_good _
  · rw [loading_reads _ _ (length_block _) (by decide)]; exact block_good _

theorem witness_StartUpLoads_ready :
    VoiceListsOk ready.alloc ∧ ready.store.queue = [] ∧ (∀ v : VoiceId, (ready.voice v).state = .idle ∨ (ready.voice v).state = .benched) ∧
      ready.store.options.tuneAtStart = .voidOnly ∧ (ready.cal 0 .oscA).valid = false ∧
      (SetupOptions.default.startRecall = .replicate 4 none) := ⟨lists_reset, by decide⟩

/-- For each written table a run of one entry that passes, and for those that can be refused one that does not. -/
theorem witness_TableWritesAreCheckedWhole_runs :
    (part? (partBytes .default) = some .default ∧ part? [0, 1, 0, 0, 0, 1, 1, 1, 0, 0, 0, 0] = none) ∧
      ((decodeRun (fun _ => scale?) 2 0 [0xFF, 0x7F, 0, 128]) = some [-128, 127] ∧ decodeRun (fun _ => param?) 2 0 [0x10, 0] = some [4095]) ∧
      (name? (initName.toList) = some initName ∧ name? (.replicate 12 0x7F) = none) ∧
      ((decodeRun descriptor? 6 11 [0, 0, 0, 1, 4, 0, 0, 0, 0, 1, 4, 0]).map (fun l => decide (l.filterMap (·.routed)).Nodup) = some false ∧
        decodeRun descriptor? 6 10 [0, 0, 0, 1, 4, 0] = none) ∧
      (decodeRun (fun _ => scanEntry?) 2 95 [0xFF, 0] = some [none] ∧ scanEntry? [96, 0] = none) ∧
      (control? (controlBytes .default) = some .default ∧ control? [0, 8, 8, 0xFF, 0, 0, 1, 0] = none) ∧
      (options? (optionsBytes .default) = some .default ∧ options? (optionsBytes { SetupOptions.default with dampTime := 16 }) = none) ∧
      (cal? (calBytes validCal) = some validCal ∧ cal? (7 :: .replicate 35 0) = none) ∧
      (target? (targetBytes ⟨255, 16777214⟩) = some ⟨255, 16777214⟩ ∧ target? [0, 0, 0, 1] = none) ∧
      (tuneConfig? (tuneConfigBytes .default) = some .default ∧
        tuneConfig? (tuneConfigBytes { TuneConfig.default with lastBp := 17 }) = none) := by
  decide +kernel

/-- What an abort of a run with a source under measurement, the abandonment of a check and the claims of a FORCED run meet. -/
theorem witness_TuneRequests_more :
    let c : DriftCheck := { voice := 0, bp := 9, w := 2, t := 30578, shift := 8 }
    let checked := tuned.withTuner { tuned.tuner with check := some c }
    let toward := holding ((voiced .damping).modVoice 0 (fun r => { r with pending := .entry 0 0 }))
    (searching.tuner.run = some (run0 .forced) ∧ searching.tuner.check = none ∧ searching.tuner.job = some job0) ∧
      (checked.tuner.check = some c ∧ checked.tuner.run = none) ∧
      ((resting.voice 0).state = .idle ∧ (ready.voice 0).state = .benched ∧ ((voiced .tuning).voice 0).state = .tuning ∧
        ((voiced .held).voice 0).state.sounding = true) ∧
      ((toward.voice 0).state = .damping ∧ (toward.voice 0).pending = .entry 0 0 ∧ toward.entry 0 = some entry0 ∧
        (toward.part 0).mode = .poly) ∧
      (((voiced .damping).voice 0).pending = .none ∧ VoiceListsOk (voiced .damping).alloc) :=
  ⟨by decide, by decide, by decide, by decide, by decide, lists_voiced .damping⟩

theorem witness_ResetRequests_run :
    executes (asked ⟨0x2D, [1, 0]⟩ searching) ⟨0x2D, [1, 0]⟩ [] ∧ searching.tuner.job = some job0 ∧
      searching.tuner.run = some (run0 .forced) := ⟨⟨rfl, rfl, rfl, rfl⟩, by decide⟩

/-- The setting is held with an empty latch, and not while a tune command waits in it. -/
theorem witness_MeasurementStages_latch :
    let s := measuring .idle (clean forced)
    let held := s.withVlink { s.vlink with cardSel := some (0, .oscA) }
    let waits := held.withVlink { held.vlink with latch := some (.select 0 .oscA) }
    held.vlink.latch = none ∧ held.vlink.cardSel = some (meas0.voice, meas0.source) ∧ waits.vlink.latch ≠ none := by decide

/-- An exact match, step 1, a verify at the tolerance and one beyond it; the last breakpoint with rising and falling codes; the last source
of the last voice. -/
theorem witness_AdjustingMeasurements_ends :
    let v : SourceJob := { job0 with verifying := true, step := 1 }
    let done : SourceJob := { job0 with first := 8, last := 9, found := [30000] }
    let r := { run0 .forced with notDone := 0 }
    searching.tuner.count + 30578 = job0.t ∧ { job0 with step := 1 }.step ≤ 1 ∧
      (v.verifying = true ∧ 30578 + 29 - 30578 ≤ v.t / 2 ^ v.tolShift ∧ v.t / 2 ^ v.tolShift < 30578 + 30 - 30578) ∧
      (job0.bp < job0.last ∧ done.last ≤ done.bp ∧ (done.found ++ [done.code]).Pairwise (· < ·) ∧
        ¬({ done with found := [36010] }.found ++ [done.code]).Pairwise (· < ·)) ∧
      ((searching.voice done.voice).state = .tuning ∧ done.first < done.last ∧
        { done with found := [30000, 36010] }.found.length = done.last - done.first + 1) ∧
      (r.notDone = 0 ∧ (run0 .forced).notDone ≠ 0 ∧ searching.req.phase = .ready ∧ searching.tuner.run = some (run0 .forced)) := by
  decide

/-- What a CALIBRATION write of V0's OSC A meets. -/
theorem witness_NoSignalVoidsTheRecord_write :
    let toward := holding ((voiced .damping).modVoice 0 (fun r => { r with pending := .entry 0 0 }))
    let valid := { ready.tuner with cal := ready.tuner.cal.set 0 validCal }
    tuned.req.phase = .ready ∧ tuned.tuner.run = none ∧ VoiceListsOk resting.alloc ∧ (0 % 3 ≠ 2 ∧ 2 % 3 = 2) ∧ validCal.valid = true ∧
      { validCal with valid := false }.valid = false ∧ (resting.voice 0).state = .idle ∧ ((voiced .held).voice 0).state.sounding = true ∧
      ((toward.voice 0).pending = .entry 0 0 ∧ toward.entry 0 = some entry0) ∧ ((voiced .damping).voice 0).pending = .none ∧
      (ready.voice 0).state = .benched ∧ (ready.withTuner valid).oscValid 0 = false ∧ ((calm tuned).voice 0).state = .benched ∧
      tuned.oscValid 0 = true ∧ (∀ p, ((calm tuned).part p).revive = false) ∧ (voiced .held).oscValid 0 = true :=
  ⟨by decide, by decide, lists_resting, by decide⟩

/-- V0 stands eleven places after V4; a check at its end; auto retune on and off; no voice that qualifies. -/
theorem witness_DriftWatch_more :
    let s := resting.withTuner { resting.tuner with driftTimer := some 1, lastChecked := 4 }
    let c : DriftCheck := { voice := 0, bp := 9, w := 2, t := 30578, shift := 8 }
    let base := measuring .counting (voiced .tuning)
    let m := base.withTuner { base.tuner with check := some c, edges := 1 }
    let auto := { TuneConfig.default with autoRetune := true }
    ((0 : VoiceId).val = (s.tuner.lastChecked.val + 1 + 11) % 16 ∧ (s.voice 0).state = .idle ∧ (s.cal 0 .oscA).valid = true ∧
      ∀ u : VoiceId, u ≠ 0 → (s.voice u).state ≠ .idle) ∧
      (∀ u : VoiceId, (ready.voice u).state ≠ .idle) ∧
      (m.inReset = false ∧ m.req.phase = .ready ∧ m.tuner.meas = some meas0 ∧ m.tuner.counter = .counting ∧ m.tuner.job = none ∧
        m.tuner.check = some c ∧ meas0.w ≤ m.tuner.edges + 1 ∧ (m.voice c.voice).state = .tuning) ∧
      (auto.autoRetune = true ∧ TuneConfig.default.autoRetune = false) := by decide

/-- A bend that differs and one that does not, with V0 sounding for part 0 and V1 not. -/
theorem witness_ChannelEventsActOnListeners_bend :
    let s := voiced .held
    s.router.bend[(0 : PartId)] = 0 ∧ s.router.bend[(0 : PartId)] ≠ 100 ∧ soundsFor s 0 0 = true ∧ soundsFor s 0 1 = false := by decide

/-- With V0 HELD for part 0 and C00 bound to PM00 of part 0 as a PICKUP control at a reported value. -/
def boundHeld (r : Word12) : State := (voiced .held).withPanel (picking r []).panel

/-- PM00 is bound and computes voices, PM06 and PM47 are handed to nothing, PM11 alone is routed to slot 4 and none to slot 3. -/
theorem witness_ParameterWrite_handed :
    let s := boundHeld 2057
    soundsFor s 0 0 = true ∧ (0 : ParamId).val ≤ 5 ∧ ¬((6 : ParamId).val ≤ 5 ∨ (6 : ParamId).val = 8 ∨ (6 : ParamId).val = 10) ∧
      (11 ≤ (47 : ParamId).val ∧ s.params.desc[(47 : ParamId)].routed = none) ∧
      (s.params.desc[(11 : ParamId)].routed = some 4 ∧ ∀ m : ParamId, m ≠ 11 → s.params.desc[m].routed ≠ some 4) ∧
      (∀ m : ParamId, s.params.desc[m].routed ≠ some 3) ∧
      (s.panel.controls[(0 : ControlId)].binding = some (0, 0) ∧ s.panel.controls[(0 : ControlId)].takeover = .pickup ∧
        s.panel.states[(0 : ControlId)].reported ≠ none ∧ ∀ d : ControlId, s.panel.controls[d].binding = some (0, 0) → d = 0) ∧
      (∀ d : ControlId, s.panel.controls[d].binding ≠ some (0, 11)) ∧ s.params.values[(0 : PartId)][(4 : ParamId)] = 4095 := by decide

/-- A write of PM11 reaches slot 4 of V0, and one of PM00 detaches C00. -/
theorem test_parameter_write_hands_on :
    (writeParam 0 11 4095 (boundHeld 2057)).pitch.slots[(0 : VoiceId)][(4 : SlotId)] = 65535 ∧
      (pickupOf (writeParam 0 0 0 (boundHeld 2057)) 0).map (·.target) = some 0 := by decide

/-- A good record read with NOW. -/
theorem witness_RecallReadEnds_now :
    let s := (recalling (patchBytes initName initValues)).withStore
      { (recalling (patchBytes initName initValues)).store with queue := [{ op := .recallRead 0 7 .now, marked := false }] }
    let b := s.store.readRun (0x1000 + 128 * (7 : Byte).toNat) 128
    s.store.queue = { op := .recallRead 0 7 .now, marked := false } :: [] ∧ s.store.port = .reading ∧ b.head? = some 0x5A ∧
      b[1]? = some 1 ∧ checkMatches b = true := by decide +kernel

/-- A staged record, V0 sounding for the part, and a control bound to it: PM00 becomes 4095 and C00 is evaluated against that. -/
theorem witness_NextNoteCommits_sounding :
    let r : Staged := { slot := 3, name := initName, values := .replicate 48 0xFFFF }
    let s := (boundHeld 2057).withStore { ready.store with staging := ready.store.staging.set 0 (some r) }
    s.store.staging[(0 : PartId)] = some r ∧ soundsFor s 0 0 = true ∧ soundsFor s 0 1 = false ∧
      ((s.panel.controls[(0 : ControlId)].binding).any fun b => b.1 = 0) = true ∧
      (pickupOf (after (.nextNoteCommit 0) s) 0).map (·.target) = some 4095 := by decide +kernel

/-- What a UNISON part takes for key 70: a free voice; its RELEASING one; SUSTAINED V0 before HELD V1, HELD V0 before V1 as OLDEST and V1 as
QUIETEST; nothing from a lone TUNING voice. -/
theorem witness_DampEndStartsTheNote_acquire :
    let unison (s : State) := parted (fun c => { c with mode := .unison }) (alsoHolding 70 s)
    let two (st : VoiceState) := unison (second .held 61 99 .none (voiced st))
    let quiet := parted (fun c => { c with steal := .quietest }) (two .held)
    let taken (s : State) := (acquireOne 0 1 s).map fun t => members (BitVec.ofBoolListLE (allVoices.map fun v => (t.voice v).state = .damping))
    ((resting.alloc.freeQueue.find? fun u => ((unison resting).part 0).pool.getLsbD u.val) = some 0 ∧
      ¬((unison resting).part 0).maxVoices ≤ ownedCount (unison resting) 0 ∧ taken (unison resting) = some []) ∧
      ((unison (voiced .releasing)).alloc.freeQueue = [] ∧ (unison (voiced .releasing)).alloc.releaseList = [] ++ 0 :: [] ∧
        taken (unison (voiced .releasing)) = some [0]) ∧
      ((two .sustained).alloc.gateList = [] ++ 0 :: [1] ∧ (two .sustained).alloc.releaseList = [] ∧ taken (two .sustained) = some [0]) ∧
      (taken (two .held) = some [0] ∧ velOf quiet 1 < velOf quiet 0 ∧ taken quiet = some [1]) ∧
      ((unison (voiced .tuning)).alloc.gateList = [] ∧ taken (unison (voiced .tuning)) = none) := by decide

/-- A sounding change of an empty group, with a voice damping toward the old entry: it damps toward the new one. -/
theorem test_empty_group_moves_the_assignment :
    let s := alsoHolding 70 (holding ((voiced .damping).modVoice 0 fun r => { r with pending := .entry 0 0 }))
    ((soundingChange 0 0 1 0 s).voice 0).pending = .entry 0 1 := by decide

/-- A part that revives: sustain on with another entry waiting, and sustain off with none. -/
theorem witness_NoteOffReleasesTheVoice_revive :
    let s := holding (voiced .held)
    let w := (alsoHolding 70 s).setSustain 0 true
    (findEntry s 0 0 60 = some 0 ∧ s.entry 0 = some entry0 ∧ (s.part 0).mode = .poly ∧ (s.part 0).revive = true ∧
      entry0.voices = 1#16 <<< (0 : VoiceId).val ∧ VoiceListsOk s.alloc ∧ (s.voice 0).state = .held ∧ s.router.sustain[(0 : PartId)] = false) ∧
      (s.withRouter (s.router.without 0 0)).partList 0 = [] ∧
      (findEntry w 0 0 60 = some 0 ∧ w.router.sustain[(0 : PartId)] = true ∧ (w.part 0).revive = true ∧
        ((partNoteOff 0 60 0 w).voice 0).state = .sustained) :=
  ⟨⟨by decide, by decide, by decide, by decide, by decide, lists_voiced .held, by decide, by decide⟩, by decide, by decide⟩

/-- The voice a run takes: an offered one, the free queue's, a BENCHED one, a TUNING one, or none. The record of the BENCHED V0 is VOID. -/
theorem witness_MeasurementStages_take :
    let ran (r : Run) (s : State) := s.withTuner { s.tuner with run := some r }
    let back := run0 .background
    let benched := ran back ready
    (benched.tuner.job = none ∧ benched.alloc.freeQueue = [] ∧ (benched.voice 0).state = .benched ∧ back.notDone.getLsbD 0 = true ∧
      (benched.cal 0 .oscA).valid = false ∧ (5 : Fin 17).val = benched.tuner.cfg.firstBp ∧ back.sources.getLsbD 0 = true) ∧
      ((after .tunerTakeVoice benched).tuner.job.map (fun j => (j.code, j.step)) = some (32768, 16384) ∧
        ((after .tunerTakeVoice benched).voice 0).state = .tuning) ∧
      ((ran back resting).alloc.freeQueue.find? (fun u => back.notDone.getLsbD u.val) = some 0 ∧ back.current = none) ∧
      (({ back with current := some 0 } : Run).current = some 0 ∧ (ran back (voiced .tuning)).alloc.freeQueue = []) ∧
      (∀ m, after .tunerTakeVoice (ran (run0 m) (voiced .held)) = ran (run0 m) (voiced .held)) := by
  refine ⟨by decide, by decide, by decide, by decide, ?_⟩
  intro m; cases m <;> decide

/-- A recall of part 1 waits in a full queue and in one with room; part 4 and timing 2 are out of range. -/
theorem witness_StoreRequestsArePlacedOrBusy_merge :
    let f : Frame := ⟨0x24, [1, 1, 9, 1]⟩
    let s (n : Nat) := asked f (storing n ready)
    (executes (s 4) f [] ∧ hasRoom (s 4) ∧ recallWaits (s 4) 1 = true ∧ 4 ≤ (s 4).store.queue.length) ∧
      (recallWaits (s 2) 1 = true ∧ ∀ q : PartId, (s 2).store.selects[q] = none) ∧ (1 : Byte).toNat = (1 : PartId).val ∧
      (3 < (4 : Byte).toNat ∧ 1 < (2 : Byte).toNat) ∧
      (after .patchRecall (s 2)).store.queue.map (·.op) = [.recallRead 1 7 .now, .recallRead 1 9 .nextNote] :=
  ⟨⟨⟨rfl, rfl, rfl, rfl⟩, by unfold hasRoom; decide⟩, by decide⟩

/-- No store operation, with a command listed; and no operation, with a pending select. -/
theorem witness_Barriers_delivers :
    let f : Frame := ⟨0x2B, [1]⟩
    let s := commanding .on (clean (asked f ready))
    let t := s.withStore { s.store with selects := s.store.selects.set 2 (some { slot := 3, timing := .now, marked := false }) }
    (s.store.queue = [] ∧ (∀ q : PartId, s.store.selects[q] = none) ∧ s.vlink.lists[(0 : VoiceId)] = [] ++ [⟨.on, false⟩] ∧
      (after .barrierDelivered s).req.hand = .barrier true true ∧
      (after .barrierDelivered s).vlink.lists[(0 : VoiceId)] = [⟨.on, true⟩]) ∧
      (t.store.selects[(2 : PartId)] ≠ none ∧ (after .barrierDelivered t).req.hand = .barrier true false) := by decide

/-- All 96 positions are mapped: after the last input of address 3 address 4 settles, after that of address 15 the round ends. With no
position mapped the round ends at the address that settles. -/
theorem witness_ScanRoundOrder_leaves :
    let at' (r : ScanRound) := ready.withPanel { ready.panel with round := r }
    let bare := (at' (.settling 3)).withPanel { (at' (.settling 3)).panel with scanMap := .replicate 96 none }
    (∀ i : Fin 96, ready.panel.scanMap[i] ≠ none) ∧ (∀ i : Fin 96, bare.panel.scanMap[i] = none) ∧
      (after (.scanSample 9) (at' (.converting 3 5))).panel.round = .settling 4 ∧
      (after (.scanSample 9) (at' (.converting 15 5))).panel.round = .none ∧
      (after (.scanSample 9) (at' (.converting 3 2))).panel.round = .converting 3 3 ∧ (after .scanSettle bare).panel.round = .none := by
  decide

/-- An attached PICKUP control, and one with an entry that has gone over to JUMP: each is bound to PM00, whose range is whole. -/
theorem witness_PickupFollowsTheControl_attached :
    let s := boundHeld 2057
    let e : PickupEntry := { control := 0, part := 0, param := 0, target := 2048, direction := .down }
    let j := (s.withParams { s.params with pickup := [e] }).withPanel { s.panel with
      controls := s.panel.controls.set 0 { s.panel.controls[(0 : ControlId)] with takeover := .jump } }
    (s.panel.controls[(0 : ControlId)].binding = some (0, 0) ∧ s.params.pickup.find? (fun e => e.control = 0) = none ∧
      s.req.phase = .ready ∧ s.params.desc[(0 : ParamId)].min ≤ s.params.desc[(0 : ParamId)].max) ∧
      (j.panel.controls[(0 : ControlId)].binding = some (0, 0) ∧ j.panel.controls[(0 : ControlId)].takeover = .jump ∧
        j.req.phase = .ready ∧ (acceptChange 0 3000 j).params.values[(0 : PartId)][(0 : ParamId)] = 3000) := by decide

/-- With min 100 and max 1123 a reported value of 3000 writes 850 (R88), as one edit, reported as not detached. -/
theorem test_attached_change :
    let s := boundHeld 2057
    let d : Descriptor := { min := 100, max := 1123, routed := none }
    let t := acceptChange 0 3000 (s.withParams { s.params with desc := s.params.desc.set 0 d })
    t.params.values[(0 : PartId)][(0 : ParamId)] = 850 ∧ t.params.editCount[(0 : PartId)] = 1 ∧ t.params.pickup = [] ∧
      t.link.line = some (.notice (.controlChange 0 3000 false)) := by decide

/-- V0 free, and a record staged for part 0. -/
def stagedFor : State :=
  resting.withStore { resting.store with
    staging := resting.store.staging.set 0 (some { slot := 3, name := initName, values := .replicate 48 0xFFFF }) }

/-- The NOTE ON commits the record, and the note takes its velocity slot and its routed slots from the new patch. -/
theorem witness_NoteOnTakesAFreeVoice_staged :
    let t := after (.noteOn 0 60 100) stagedFor
    (actsOnFrames stagedFor ∧ stagedFor.req.phase = .ready ∧ 0 < (100 : Key).val ∧ (stagedFor.store.staging[(0 : PartId)]).isSome = true ∧
      stagedFor.router.zones[(0 : Fin 8)].hit 0 60 100 = true ∧ stagedFor.router.zones[(0 : Fin 8)].sounding 60 = some 60) ∧
      t.store.staging[(0 : PartId)] = none ∧ t.params.window[(0 : PartId)] = some 3 ∧
      t.pitch.slots[(0 : VoiceId)][(4 : SlotId)] = 65535 := ⟨⟨⟨rfl, .inl rfl⟩, by decide⟩, by decide +kernel⟩

/-- An unprimed KNOB bound with PICKUP to PM00, at 2048: the priming sample 3000 detaches it. -/
theorem witness_SwitchFilterAndPriming_pickup :
    let s := (picking 0 []).withPanel { (picking 0 []).panel with states := ready.panel.states }
    s.panel.states[(0 : ControlId)].reported = none ∧ s.panel.controls[(0 : ControlId)].type = .knob ∧
      s.panel.controls[(0 : ControlId)].binding = some (0, 0) ∧ s.panel.controls[(0 : ControlId)].takeover = .pickup ∧
      (pickupOf (filterSample 0 3000 s) 0).map (·.target) = some 2048 := by decide

/-- A bound KNOB whose run ends with this sample writes its parameter. -/
theorem witness_KnobFilter_bound :
    let s := (boundHeld 2057).withPanel { (boundHeld 2057).panel with round := .converting 0 0 }
    let s := s.withPanel { s.panel with states := s.panel.states.set 0 { reported := some 2057, runCount := 1 } }
    s.panel.scanMap[(0 : Fin 96)] = some 0 ∧ (s.panel.controls[(0 : ControlId)].deadBand.toNat < max 3000 2057 - min 3000 2057) ∧
      (#v[1, 2, 3, 4, 6, 8, 12, 16] : Vector Nat 8)[s.panel.controls[(0 : ControlId)].persistence] ≤ 2 ∧
      (after (.scanSample 3000) s).params.values[(0 : PartId)][(0 : ParamId)] = 3000 := by decide

/-- The last page of a SETUP SAVE and of a CAL SAVE, polled. -/
theorem witness_PageTimeoutFails_saves :
    let s (op : StoreOp) := ready.withStore { ready.store with queue := [{ op := op, marked := false }], port := .polling 31 }
    let a := s (.setupSave (setupTables ready))
    let b := s (.calSave tuned.tuner.cal)
    (a.inReset = false ∧ a.req.phase = .ready ∧ a.store.mem.wf = true ∧ a.store.port = .polling 31 ∧ 31 < 32 ∧
      a.store.queue = { op := .setupSave (setupTables ready), marked := false } :: []) ∧
      (b.store.mem.wf = true ∧ b.store.queue = { op := .calSave tuned.tuner.cal, marked := false } :: []) :=
  ⟨⟨rfl, rfl, rfl, rfl, by decide, rfl⟩, rfl, rfl⟩

end Sys2Proof.Tests
end

section
/-! The Pitch Engine's rules (03_pitch_and_slot_values.md): what a computation of a voice sets and what it leaves, and that operations
which act on one voice each, run over several voices, give each voice what they give it alone. Settles O31 and O32. -/

namespace Sys2Proof.Proofs.PitchAndSlots

open Sys2Proof Sys2Proof.Machine

/-- `s` with other voice records, targets and slots: all that a computation or a glide step may write. -/
def repitch (s : State) (voices : Vector VoiceRec 16) (target : Vector (Option Int) 16) (slots : Vector (Vector Word 32) 16) : State :=
  (s.withAlloc { s.alloc with voices }).withPitch { s.pitch with target, slots }

/-- `t` is `s` but for voice records, targets and slots. -/
def PitchFrame (s t : State) : Prop := ∃ voices target slots, t = repitch s voices target slots

theorem PitchFrame.refl (s : State) : PitchFrame s s := ⟨_, _, _, rfl⟩

theorem PitchFrame.trans {s t u : State} (hst : PitchFrame s t) (htu : PitchFrame t u) : PitchFrame s u := by
  obtain ⟨_, _, _, rfl⟩ := hst
  obtain ⟨_, _, _, rfl⟩ := htu
  exact ⟨_, _, _, rfl⟩

theorem PitchFrame.symm {s t : State} (h : PitchFrame s t) : PitchFrame t s := by
  obtain ⟨_, _, _, rfl⟩ := h
  exact ⟨_, _, _, rfl⟩

theorem PitchFrame.alloc {s t : State} (h : PitchFrame s t) : { t.alloc with voices := s.alloc.voices } = s.alloc := by
  obtain ⟨_, _, _, rfl⟩ := h
  rfl

theorem PitchFrame.pitch {s t : State} (h : PitchFrame s t) :
    { t.pitch with target := s.pitch.target, slots := s.pitch.slots } = s.pitch := by
  obtain ⟨_, _, _, rfl⟩ := h
  rfl

theorem PitchFrame.rest {s t : State} (h : PitchFrame s t) : { t with alloc := s.alloc, pitch := s.pitch } = s := by
  obtain ⟨_, _, _, rfl⟩ := h
  rfl

/-- `s` with another glide timer. -/
def withGlideTimer (x : Option Nat) (s : State) : State := s.withPitch { s.pitch with glideTimer := x }

/-- `t` is `s` but for voice records, targets, slots and the glide timer: for one voice, a computation reads the same in both. -/
def TimedFrame (s t : State) : Prop := ∃ x, PitchFrame (withGlideTimer x s) t

theorem PitchFrame.timed {s t : State} (h : PitchFrame s t) : TimedFrame s t := ⟨s.pitch.glideTimer, h⟩

theorem TimedFrame.pm {s t : State} (h : TimedFrame s t) : Machine.pm t = Machine.pm s := by
  obtain ⟨_, _, _, _, rfl⟩ := h
  rfl

theorem TimedFrame.modVoice {s t : State} (h : TimedFrame s t) (v : VoiceId) (f : VoiceRec → VoiceRec) :
    TimedFrame (s.modVoice v f) (t.modVoice v f) := by
  obtain ⟨x, _, _, _, rfl⟩ := h
  exact ⟨x, _, _, _, rfl⟩

theorem voiceKept_refl (s : State) (v : VoiceId) : voiceKept s s v := ⟨rfl, rfl, rfl⟩

theorem voiceKept_trans {s t u : State} {v : VoiceId} (hst : voiceKept s t v) (htu : voiceKept t u v) : voiceKept s u v := by
  obtain ⟨hr, ht, hs⟩ := hst
  obtain ⟨hr', ht', hs'⟩ := htu
  exact ⟨hr'.trans hr, ht'.trans ht, hs'.trans hs⟩

theorem voiceKept_symm {s t : State} {v : VoiceId} (h : voiceKept s t v) : voiceKept t s v := by
  obtain ⟨hr, ht, hs⟩ := h
  exact ⟨hr.symm, ht.symm, hs.symm⟩

/-- Two states with the same frame and the same voices are one. -/
theorem PitchFrame.eq_of_voiceKept {s t : State} (h : PitchFrame s t) (hk : ∀ v, voiceKept s t v) : t = s := by
  obtain ⟨voices, target, slots, rfl⟩ := h
  have hv : voices = s.alloc.voices := Vector.ext fun i hi => (hk ⟨i, hi⟩).1
  have ht : target = s.pitch.target := Vector.ext fun i hi => (hk ⟨i, hi⟩).2.1
  have hs : slots = s.pitch.slots := Vector.ext fun i hi => (hk ⟨i, hi⟩).2.2
  subst hv ht hs
  rfl

/-! ## Operations on one voice, run over a list of voices -/

/-- `f v` writes only the record, the target and the slots of voice `v`, and reads no other voice's. -/
structure ActsPerVoice (f : VoiceId → State → State) : Prop where
  frame : ∀ v s, PitchFrame s (f v s)
  others : ∀ v u s, u ≠ v → voiceKept s (f v s) u
  reads : ∀ v s t, TimedFrame s t → voiceKept s t v → voiceKept (f v s) (f v t) v

/-- Run once for each voice of a list, such an operation gives each voice what it gives it in the state at the start. -/
theorem ActsPerVoice.forEach_spec {f : VoiceId → State → State} (hf : ActsPerVoice f) {vs : List VoiceId} (hn : vs.Nodup) (s : State) :
    PitchFrame s (forEach vs f s) ∧ (∀ v ∈ vs, voiceKept (f v s) (forEach vs f s) v) ∧
      ∀ v ∉ vs, voiceKept s (forEach vs f s) v := by
  induction vs generalizing s with
  | nil => exact ⟨.refl s, fun _ h => absurd h List.not_mem_nil, fun v _ => voiceKept_refl s v⟩
  | cons x xs ih =>
    obtain ⟨hx, hxs⟩ := List.nodup_cons.mp hn
    obtain ⟨hframe, hin, hout⟩ := ih hxs (f x s)
    rw [forEach_cons]
    refine ⟨(hf.frame x s).trans hframe, fun v hv => ?_, fun v hv => ?_⟩
    · obtain rfl | hv := List.mem_cons.mp hv
      · exact hout v hx
      · have hne : v ≠ x := fun e => hx (e ▸ hv)
        exact voiceKept_trans (hf.reads v s _ (hf.frame x s).timed (hf.others x v s hne)) (hin v hv)
    · obtain ⟨hne, hv⟩ := List.ne_and_not_mem_of_not_mem_cons hv
      exact voiceKept_trans (hf.others x v s hne) (hout v hv)

theorem forEach_append {α : Type} (xs ys : List α) (f : α → State → State) (s : State) :
    forEach (xs ++ ys) f s = forEach ys f (forEach xs f s) := List.foldl_append

/-! ## One computation (R53, R56 to R68) -/

/-- The pitch Q a computation of voice `v` for part `p` and key `key` settles on (R56, R57). -/
def computedQ (s : State) (p : PartId) (v : VoiceId) (key : Key) : Int :=
  settleQ (s.voice v).q s.pitch.target[v] (notePitch key.val (scaleOffset s p key)) (glideRate (pm s p 6))

/-- The filter pitch before its clamp, of a voice of part `p` at pitch `q` (R63). -/
def filterSum (s : State) (p : PartId) (q : Int) : Int := filterPitch (cutoffBase (pm s p 4)) q (keyTracking (pm s p 5))

/-- Whether one of the three clamps acts at pitch `q` (R64). -/
def anyClampActs (s : State) (p : PartId) (v : VoiceId) (q : Int) : Bool :=
  clampActs (oscSum s p v q 0 1) || clampActs (oscSum s p v q 2 3) || clampActs (filterSum s p q)

/-- A voice's slots with the four engine slots replaced (R68). -/
def setEngineSlots (a b f level : Word) (slots : Vector Word 32) : Vector Word 32 :=
  (((slots.set 0 a).set 1 b).set 2 f).set 3 level

theorem setEngineSlots_engine (a b f level : Word) (slots : Vector Word 32) :
    (setEngineSlots a b f level slots)[0] = a ∧ (setEngineSlots a b f level slots)[1] = b ∧
      (setEngineSlots a b f level slots)[2] = f ∧ (setEngineSlots a b f level slots)[3] = level := by
  simp only [setEngineSlots, ne_eq, reduceCtorEq, not_false_eq_true, Vector.getElem_set_ne, Nat.succ_ne_self, Vector.getElem_set_self,
    Nat.reduceEqDiff, and_self]

theorem setEngineSlots_routed (a b f level : Word) (slots : Vector Word 32) {i : Nat} (hi : i < 32) (h : 4 ≤ i) :
    (setEngineSlots a b f level slots)[i] = slots[i] := by
  rw [setEngineSlots, Vector.getElem_set_ne _ _ (by omega), Vector.getElem_set_ne _ _ (by omega),
    Vector.getElem_set_ne _ _ (by omega), Vector.getElem_set_ne _ _ (by omega)]

theorem setEngineSlots_again (a b f level : Word) (slots : Vector Word 32) :
    setEngineSlots a b f level (setEngineSlots a b f level slots) = setEngineSlots a b f level slots := by
  obtain ⟨h0, h1, h2, h3⟩ := setEngineSlots_engine a b f level slots
  obtain ⟨g0, g1, g2, g3⟩ := setEngineSlots_engine a b f level (setEngineSlots a b f level slots)
  refine Vector.ext fun i hi => ?_
  match i, hi with
  | 0, _ => exact g0.trans h0.symm
  | 1, _ => exact g1.trans h1.symm
  | 2, _ => exact g2.trans h2.symm
  | 3, _ => exact g3.trans h3.symm
  | i + 4, hi => exact setEngineSlots_routed a b f level _ hi (by omega)

/-- Slots 0–3 at pitch `q` and velocity `vel`, and the routed slots as they are (R68). -/
def computedSlots (s : State) (p : PartId) (v : VoiceId) (q : Int) (vel : Key) : Vector Word 32 :=
  setEngineSlots (convert (s.cal v .oscA).codes (clampPitch (oscSum s p v q 0 1)))
    (convert (s.cal v .oscB).codes (clampPitch (oscSum s p v q 2 3)))
    (convert (filterCodes (s.cal v .filter)) (clampPitch (filterSum s p q))) (velocityLevel vel.val (pm s p 10)) s.pitch.slots[v]

section computeFor
variable (v : VoiceId) (p : PartId) (key vel : Key) (s : State)

theorem computeFor_voice_same : (computeFor v p key vel s).voice v =
    { s.voice v with q := some (computedQ s p v key), clamp := anyClampActs s p v (computedQ s p v key) } :=
  State.voice_modVoice_same s v (fun r => { r with
    q := some (computedQ s p v key), clamp := anyClampActs s p v (computedQ s p v key) })

theorem computeFor_target_same :
    (computeFor v p key vel s).pitch.target[v] = some (notePitch key.val (scaleOffset s p key)) :=
  Vector.getElem_set_self v.isLt

theorem computeFor_slots_same :
    (computeFor v p key vel s).pitch.slots[v] = computedSlots s p v (computedQ s p v key) vel :=
  Vector.getElem_set_self v.isLt

theorem computeFor_frame : PitchFrame s (computeFor v p key vel s) := ⟨_, _, _, rfl⟩

theorem computeFor_others {u : VoiceId} (h : u ≠ v) : voiceKept s (computeFor v p key vel s) u := by
  have h' : (v : Nat) ≠ u := fun e => h (Fin.ext e.symm)
  exact ⟨State.voice_modVoice_other s h (fun r => { r with
    q := some (computedQ s p v key), clamp := anyClampActs s p v (computedQ s p v key) }), Vector.getElem_set_ne v.isLt u.isLt h',
    Vector.getElem_set_ne v.isLt u.isLt h'⟩

end computeFor

theorem computeFor_reads {v : VoiceId} (p : PartId) (key vel : Key) {s t : State} (hf : TimedFrame s t) (hk : voiceKept s t v) :
    voiceKept (computeFor v p key vel s) (computeFor v p key vel t) v := by
  obtain ⟨hrec, htarget, hslots⟩ := hk
  obtain ⟨x, voices, target, slots, rfl⟩ := hf
  have hq : computedQ (repitch (withGlideTimer x s) voices target slots) p v key = computedQ s p v key := by
    simp only [computedQ, hrec, htarget]; rfl
  have hosc (q : Int) (c f : ParamId) :
      oscSum (repitch (withGlideTimer x s) voices target slots) p v q c f = oscSum s p v q c f := by
    simp only [oscSum, voiceUnison, hrec]; rfl
  refine ⟨?_, ?_, ?_⟩
  · simp only [computeFor_voice_same, hrec, hq, anyClampActs, hosc]; rfl
  · simp only [computeFor_target_same]; rfl
  · simp only [computeFor_slots_same, computedSlots, hslots, hq, hosc]; rfl

/-- Voice `v` sounds for part `p`, with key and velocity: then it can be computed (R53). -/
structure Plays (s : State) (v : VoiceId) (p : PartId) (key vel : Key) : Prop where
  sounding : (s.voice v).state.sounding = true
  owner : (s.voice v).owner = some p
  key : (s.voice v).key = some key
  vel : (s.voice v).vel = some vel

theorem computeVoice_of_plays {s : State} {v : VoiceId} {p : PartId} {key vel : Key} (h : Plays s v p key vel) :
    computeVoice v s = computeFor v p key vel s := by
  simp only [computeVoice, h.sounding, h.owner, h.key, h.vel, if_true]

theorem computeVoice_of_not_plays {s : State} {v : VoiceId} (h : ∀ p key vel, ¬Plays s v p key vel) : computeVoice v s = s := by
  unfold computeVoice
  split
  next hs =>
    split
    next p key vel ho hk hv => exact absurd ⟨hs, ho, hk, hv⟩ (h p key vel)
    next => rfl
  next => rfl

theorem computeVoice_cases (v : VoiceId) (s : State) :
    (computeVoice v s = s ∧ ∀ p key vel, ¬Plays s v p key vel) ∨
      ∃ p key vel, computeVoice v s = computeFor v p key vel s ∧ Plays s v p key vel := by
  by_cases h : ∃ p key vel, Plays s v p key vel
  · obtain ⟨p, key, vel, h⟩ := h
    exact .inr ⟨p, key, vel, computeVoice_of_plays h, h⟩
  · have hn : ∀ p key vel, ¬Plays s v p key vel := fun p key vel hp => h ⟨p, key, vel, hp⟩
    exact .inl ⟨computeVoice_of_not_plays hn, hn⟩

theorem Plays.of_voice {s t : State} {v : VoiceId} {p : PartId} {key vel : Key} (h : Plays s v p key vel)
    (hrec : t.voice v = s.voice v) : Plays t v p key vel := by
  obtain ⟨hs, ho, hk, hv⟩ := h
  rw [← hrec] at hs ho hk hv
  exact ⟨hs, ho, hk, hv⟩

theorem computeVoice_actsPerVoice : ActsPerVoice computeVoice where
  frame v s := by
    obtain ⟨h, -⟩ | ⟨p, key, vel, h, -⟩ := computeVoice_cases v s <;> rw [h]
    · exact .refl s
    · exact computeFor_frame v p key vel s
  others v u s hne := by
    obtain ⟨h, -⟩ | ⟨p, key, vel, h, -⟩ := computeVoice_cases v s <;> rw [h]
    · exact voiceKept_refl s u
    · exact computeFor_others v p key vel s hne
  reads v s t hf hk := by
    have hrec : t.voice v = s.voice v := hk.1
    obtain ⟨h, hn⟩ | ⟨p, key, vel, h, hp⟩ := computeVoice_cases v s
    · rw [h, computeVoice_of_not_plays fun p key vel hp => hn p key vel (hp.of_voice hrec.symm)]
      exact hk
    · rw [h, computeVoice_of_plays (hp.of_voice hrec)]
      exact computeFor_reads p key vel hf hk

/-- A computation changes of a voice's record the pitch and the clamp flag alone. -/
theorem computeVoice_pitchedAs (v u : VoiceId) (s : State) :
    (computeVoice v s).voice u = (s.voice u).pitchedAs ((computeVoice v s).voice u) := by
  by_cases hu : u = v
  · subst hu
    obtain ⟨h, -⟩ | ⟨p, key, vel, h, -⟩ := computeVoice_cases u s <;> rw [h]
    · rfl
    · rw [computeFor_voice_same]; rfl
  · obtain ⟨hrec, -, -⟩ := computeVoice_actsPerVoice.others v u s hu
    rw [hrec]; rfl

/-- A computation leaves the routed slots of its voice; those of the others are kept with the voice. -/
theorem computeVoice_routedKept (v : VoiceId) (s : State) : routedKept s (computeVoice v s) v := by
  intro k hk
  obtain ⟨h, -⟩ | ⟨p, key, vel, h, -⟩ := computeVoice_cases v s <;> rw [h]
  rw [computeFor_slots_same]
  exact setEngineSlots_routed _ _ _ _ _ k.isLt hk

theorem settleQ_settled (x n g : Int) : settleQ (some x) (some n) n g = x := if_neg (fun h => h.1 rfl)

/-- A computed voice computed again stays as it is: its target is N, so Q is kept, and the codes are the same. -/
theorem computeFor_isComputed {v : VoiceId} {p : PartId} {key vel : Key} (s : State) :
    computeFor v p key vel (computeFor v p key vel s) = computeFor v p key vel s := by
  have hq : computedQ (computeFor v p key vel s) p v key = computedQ s p v key := by
    rw [computedQ, computeFor_voice_same, computeFor_target_same]
    exact settleQ_settled _ _ _
  have hosc (q : Int) (c f : ParamId) : oscSum (computeFor v p key vel s) p v q c f = oscSum s p v q c f := by
    simp only [oscSum, voiceUnison, computeFor_voice_same]; rfl
  refine (computeFor_frame v p key vel _).eq_of_voiceKept fun u => ?_
  by_cases hu : u = v
  · subst hu
    refine ⟨?_, ?_, ?_⟩
    · rw [computeFor_voice_same, hq, anyClampActs, hosc, hosc, computeFor_voice_same]; rfl
    · rw [computeFor_target_same, computeFor_target_same]; rfl
    · rw [computeFor_slots_same, hq, computedSlots, hosc, hosc, computeFor_slots_same]
      exact setEngineSlots_again _ _ _ _ _
  · exact computeFor_others v p key vel _ hu

theorem computeVoice_isComputed (v : VoiceId) (s : State) : isComputed (computeVoice v s) v := by
  unfold isComputed
  obtain ⟨h, -⟩ | ⟨p, key, vel, h, hs, ho, hk, hv⟩ := computeVoice_cases v s
  · rw [h, h]
  · have hrec := computeFor_voice_same v p key vel s
    have hplays : Plays (computeFor v p key vel s) v p key vel := by constructor <;> rw [hrec] <;> assumption
    rw [h, computeVoice_of_plays hplays, computeFor_isComputed]

/-- A voice that stands as a computation left it is computed, whatever was done to other voices since; of its record and its slots, it
has kept what a computation keeps. -/
theorem computed_of_voiceKept {s t : State} {v : VoiceId} (hf : PitchFrame s t) (hk : voiceKept (computeVoice v s) t v) :
    isComputed t v ∧ t.voice v = (s.voice v).pitchedAs (t.voice v) ∧ routedKept s t v := by
  obtain ⟨hrec, -, hslots⟩ := id hk
  refine ⟨?_, ?_, fun k h4 => ?_⟩
  · have hframe : PitchFrame (computeVoice v s) t := (computeVoice_actsPerVoice.frame v s).symm.trans hf
    have hself := computeVoice_actsPerVoice.reads v _ t hframe.timed hk
    rw [computeVoice_isComputed v s] at hself
    refine (computeVoice_actsPerVoice.frame v t).eq_of_voiceKept fun u => ?_
    by_cases hu : u = v
    · subst hu
      exact voiceKept_trans (voiceKept_symm hk) hself
    · exact computeVoice_actsPerVoice.others v u t hu
  · rw [hrec]
    exact computeVoice_pitchedAs v v s
  · rw [hslots]
    exact computeVoice_routedKept v s k h4

/-! ## One glide step (R58) -/

theorem modVoice_actsPerVoice (f : VoiceRec → VoiceRec) : ActsPerVoice (fun v s => s.modVoice v f) where
  frame v s := ⟨s.alloc.voices.set v (f (s.voice v)), s.pitch.target, s.pitch.slots, rfl⟩
  others v u s h := ⟨State.voice_modVoice_other s h f, rfl, rfl⟩
  reads v s t _ hk := by
    obtain ⟨hrec, htarget, hslots⟩ := hk
    exact ⟨by simp only [State.voice_modVoice_same, hrec], htarget, hslots⟩

/-- Voice `v` sounds for part `p` at pitch `q`, off its target `n` (R58). -/
structure OffTarget (s : State) (v : VoiceId) (p : PartId) (q n : Int) : Prop where
  sounding : (s.voice v).state.sounding = true
  owner : (s.voice v).owner = some p
  pitch : (s.voice v).q = some q
  target : s.pitch.target[v] = some n
  off : q ≠ n

theorem OffTarget.of_voiceKept {s t : State} {v : VoiceId} {p : PartId} {q n : Int} (h : OffTarget s v p q n)
    (hk : voiceKept s t v) : OffTarget t v p q n := by
  obtain ⟨hs, ho, hq, ht, hne⟩ := h
  obtain ⟨hrec, htarget, -⟩ := hk
  rw [← hrec] at hs ho hq
  exact ⟨hs, ho, hq, htarget.trans ht, hne⟩

/-- `s` with voice `v` of part `p` moved from `q` one glide step toward `n`, and not yet computed. -/
def moved (v : VoiceId) (p : PartId) (q n : Int) (s : State) : State :=
  s.modVoice v (fun r => { r with q := some (glideToward (glideRate (pm s p 6)) q n) })

theorem moved_voice (v : VoiceId) (p : PartId) (q n : Int) (s : State) :
    (moved v p q n s).voice v = { s.voice v with q := some (glideToward (glideRate (pm s p 6)) q n) } :=
  State.voice_modVoice_same s v _

theorem moved_frame (v : VoiceId) (p : PartId) (q n : Int) (s : State) : PitchFrame s (moved v p q n s) :=
  (modVoice_actsPerVoice _).frame v s

theorem moved_others (v : VoiceId) (p : PartId) (q n : Int) (s : State) {u : VoiceId} (h : u ≠ v) :
    voiceKept s (moved v p q n s) u := (modVoice_actsPerVoice _).others v u s h

theorem moved_reads {v : VoiceId} (p : PartId) (q n : Int) {s t : State} (hf : TimedFrame s t) (hk : voiceKept s t v) :
    TimedFrame (moved v p q n s) (moved v p q n t) ∧ voiceKept (moved v p q n s) (moved v p q n t) v := by
  rw [moved, moved, hf.pm]
  exact ⟨hf.modVoice v _, (modVoice_actsPerVoice _).reads v s t hf hk⟩

theorem plays_moved {s : State} {v : VoiceId} {p : PartId} {key vel : Key} (h : Plays s v p key vel) (q n : Int) :
    Plays (moved v p q n s) v p key vel := by
  obtain ⟨hs, ho, hk, hv⟩ := h
  constructor <;> rw [moved_voice] <;> assumption

/-- A sounding voice off its target is stepped and computed. -/
theorem glideVoice_of_offTarget {s : State} {v : VoiceId} {p : PartId} {q n : Int} (h : OffTarget s v p q n) :
    glideVoice v s = computeVoice v (moved v p q n s) := by
  simp only [glideVoice, h.sounding, h.owner, h.pitch, h.target, if_neg h.off, moved]

theorem glideVoice_of_not_offTarget {s : State} {v : VoiceId} (h : ∀ p q n, ¬OffTarget s v p q n) : glideVoice v s = s := by
  unfold glideVoice
  split
  next p q n hs ho hq ht =>
    split
    next => rfl
    next hne => exact absurd ⟨hs, ho, hq, ht, hne⟩ (h p q n)
  next => rfl

theorem glideVoice_cases (v : VoiceId) (s : State) :
    (glideVoice v s = s ∧ ∀ p q n, ¬OffTarget s v p q n) ∨
      ∃ p q n, glideVoice v s = computeVoice v (moved v p q n s) ∧ OffTarget s v p q n := by
  by_cases h : ∃ p q n, OffTarget s v p q n
  · obtain ⟨p, q, n, h⟩ := h
    exact .inr ⟨p, q, n, glideVoice_of_offTarget h, h⟩
  · have hn : ∀ p q n, ¬OffTarget s v p q n := fun p q n ho => h ⟨p, q, n, ho⟩
    exact .inl ⟨glideVoice_of_not_offTarget hn, hn⟩

theorem glideVoice_actsPerVoice : ActsPerVoice glideVoice where
  frame v s := by
    obtain ⟨h, -⟩ | ⟨p, q, n, h, -⟩ := glideVoice_cases v s <;> rw [h]
    · exact .refl s
    · exact (moved_frame v p q n s).trans (computeVoice_actsPerVoice.frame v _)
  others v u s hne := by
    obtain ⟨h, -⟩ | ⟨p, q, n, h, -⟩ := glideVoice_cases v s <;> rw [h]
    · exact voiceKept_refl s u
    · exact voiceKept_trans (moved_others v p q n s hne) (computeVoice_actsPerVoice.others v u _ hne)
  reads v s t hf hk := by
    obtain ⟨h, hn⟩ | ⟨p, q, n, h, ho⟩ := glideVoice_cases v s
    · rw [h, glideVoice_of_not_offTarget fun p q n ho => hn p q n (ho.of_voiceKept (voiceKept_symm hk))]
      exact hk
    · rw [h, glideVoice_of_offTarget (ho.of_voiceKept hk)]
      obtain ⟨hframe, hkept⟩ := moved_reads p q n hf hk
      exact computeVoice_actsPerVoice.reads v _ _ hframe hkept

/-- A voice that does not sound, or stands on its target, is not stepped. -/
theorem glideVoice_still {s : State} {v : VoiceId} (h : (s.voice v).state.sounding = false ∨ (s.voice v).q = s.pitch.target[v]) :
    glideVoice v s = s := by
  refine glideVoice_of_not_offTarget fun p q n ⟨hs, _, hq, ht, hne⟩ => ?_
  obtain h | h := h
  · exact Bool.false_ne_true (h.symm.trans hs)
  · exact hne (Option.some.inj (hq.symm.trans (h.trans ht)))

theorem glideToward_eq (g q n : Int) : glideToward g q n =
    if g = 0 then n
    else if q < n then min n (q + ((128 - g) * (128 - g) / 16 + 1))
    else max n (q - ((128 - g) * (128 - g) / 16 + 1)) := by
  unfold glideToward glideSize
  generalize (128 - g) * (128 - g) / 16 + 1 = move
  split
  · rfl
  · split <;> split <;> omega

/-- A voice whose target is the note pitch keeps its Q in a computation. -/
theorem computeFor_voice_settled {s : State} {v : VoiceId} {p : PartId} {key vel : Key} {x : Int} (hq : (s.voice v).q = some x)
    (ht : s.pitch.target[v] = some (notePitch key.val (scaleOffset s p key))) :
    (computeFor v p key vel s).voice v = { s.voice v with clamp := ((computeFor v p key vel s).voice v).clamp } := by
  have hx : some (computedQ s p v key) = (s.voice v).q := by rw [computedQ, hq, ht, settleQ_settled]
  rw [computeFor_voice_same, hx]

/-- The expiry restarts the timer and gives each voice what `glideVoice` gives it in the state at the start. -/
theorem exec_glideStep {s : State} {n : Nat} (hr : s.inReset = false) (hn : s.pitch.glideTimer = some n) :
    ∃ t, exec .glideStep s = .next t ∧ PitchFrame (withGlideTimer (some 16000) s) t ∧ ∀ v, voiceKept (glideVoice v s) t v := by
  have hexec : exec .glideStep s = .next (forEach allVoices glideVoice (withGlideTimer (some 16000) s)) := by
    have h : exec .glideStep s = execGlideStep s := rfl
    rw [h, execGlideStep, act_running hr, hn]
    rfl
  have hnodup : allVoices.Nodup := List.nodup_finRange 16
  obtain ⟨hframe, hin, -⟩ := glideVoice_actsPerVoice.forEach_spec hnodup (withGlideTimer (some 16000) s)
  refine ⟨_, hexec, hframe, fun v => ?_⟩
  have htimed : TimedFrame s (withGlideTimer (some 16000) s) := ⟨_, .refl _⟩
  exact voiceKept_trans (glideVoice_actsPerVoice.reads v s _ htimed ⟨rfl, rfl, rfl⟩) (hin v (List.mem_finRange v))

/-- Settles O31: the expiry runs `glideVoice` for each voice, which acts on that voice alone. -/
theorem glideStepsEachVoice : Obligations.GlideStepsEachVoice := by
  intro s n hr hn
  obtain ⟨t, hexec, hframe, hstep⟩ := exec_glideStep hr hn
  have halloc : { t.alloc with voices := s.alloc.voices } = s.alloc := hframe.alloc
  refine ⟨t, hexec, congrArg Pitch.glideTimer hframe.pitch, fun v hv => ?_, ?_, (congrArg Alloc.freeQueue halloc :),
    (congrArg Alloc.gateList halloc :), (congrArg Alloc.releaseList halloc :),
    congrArg (fun x : Pitch => { x with glideTimer := s.pitch.glideTimer }) hframe.pitch,
    congrArg (fun x : State => { x with pitch := s.pitch }) hframe.rest⟩
  · obtain ⟨hrec, htarget, hslots⟩ := hstep v
    rw [glideVoice_still hv] at hrec htarget hslots
    exact ⟨hrec, hslots, htarget⟩
  · intro v p k vel q hs ho hk hv hq target ht hne g move r computed
    have hr : r = (moved v p q target s).voice v := by rw [moved_voice, glideToward_eq]; rfl
    have hmoved : s.modVoice v (fun _ => r) = moved v p q target s := by rw [hr, moved_voice]; rfl
    have hc : computed = computeVoice v (moved v p q target s) := congrArg (computeVoice v) hmoved
    have hplays := plays_moved ⟨hs, ho, hk, hv⟩ q target
    obtain ⟨hrec, htarget, hslots⟩ := hstep v
    rw [glideVoice_of_offTarget ⟨hs, ho, hq, ht, hne⟩, ← hc] at hrec htarget hslots
    rw [computeVoice_of_plays hplays] at hc
    refine ⟨?_, ?_, fun i => ?_⟩
    · rw [hrec, hr, hc]
      exact computeFor_voice_settled (congrArg VoiceRec.q (moved_voice v p q target s)) ht
    · rw [htarget, hc]
      exact computeFor_target_same v p k vel _
    · rw [hslots]
      split
      · rfl
      · rw [hc, ← computeVoice_of_plays hplays]
        exact computeVoice_routedKept v (moved v p q target s) i (by omega)

/-! ## The conversion to codes (R65 to R67) -/

theorem toNat_ofInt_word {x : Int} (h0 : 0 ≤ x) (h1 : x < 65536) : ((BitVec.ofInt 16 x).toNat : Int) = x := by
  rw [BitVec.toNat_ofInt]
  omega

/-- An interpolation between two codes stays between them, and so fits a word. -/
theorem interpolation_fits {low high f : Int} (hl : 0 ≤ low) (hl' : low < 65536) (hh : 0 ≤ high) (hh' : high < 65536) (hf : 0 ≤ f)
    (hf' : f < 2048) : 0 ≤ low + ((high - low) * f + 1024) / 2048 ∧ low + ((high - low) * f + 1024) / 2048 < 65536 := by
  obtain h | h := Int.le_total low high
  · have hmin : 0 ≤ (high - low) * f := Int.mul_nonneg (by omega) hf
    have hmax : (high - low) * f ≤ (high - low) * 2047 := Int.mul_le_mul_of_nonneg_left (by omega) (by omega)
    omega
  · have hmin : (low - high) * f ≤ (low - high) * 2047 := Int.mul_le_mul_of_nonneg_left (by omega) (by omega)
    have hmax : 0 ≤ (low - high) * f := Int.mul_nonneg (by omega) hf
    have hneg : (high - low) * f = -((low - high) * f) := by rw [← Int.neg_mul, Int.neg_sub]
    omega

theorem codeAt_eq (codes : Vector Word 17) {i : Nat} (h : i < 17) : codeAt codes i = (codes[i]).toNat := by
  simp only [codeAt, h, getElem?_pos, Option.getD_some]

theorem convert_interpolates (codes : Vector Word 17) (i : Fin 16) (f : Fin 2048) :
    ((convert codes (2048 * i.val + f.val)).toNat : Int) = (codes[i.val]'(by omega)).toNat +
      ((((codes[i.val + 1]'(by omega)).toNat : Int) - (codes[i.val]'(by omega)).toNat) * f.val + 1024) / 2048 := by
  have hi : ((2048 * i.val + f.val : Int) / 2048).toNat = i.val := by omega
  have hf : (2048 * i.val + f.val : Int) % 2048 = f.val := by omega
  obtain ⟨h0, h1⟩ := interpolation_fits (low := (codes[i.val]'(by omega)).toNat) (high := (codes[i.val + 1]'(by omega)).toNat)
    (f := f.val) (by omega) (by omega) (by omega) (by omega) (by omega) (by omega)
  rw [convert, hi, hf, codeAt_eq codes (by omega), codeAt_eq codes (by omega)]
  exact toNat_ofInt_word h0 h1

theorem filterCodes_valid {r : CalRecord} (h : r.valid = true) : filterCodes r = r.codes := if_pos h

theorem filterCodes_void {r : CalRecord} (h : r.valid = false) (i : Fin 17) : ((filterCodes r)[i]).toNat = min 65535 (4096 * i.val) := by
  have hn : ∀ j : Fin 17, (nominalCodes[j]).toNat = min 65535 (4096 * j.val) := by decide
  have hr : filterCodes r = nominalCodes := if_neg (by rw [h]; decide)
  rw [hr, hn]

theorem velocityLevel_toNat (vel : Key) (a : Word12) :
    ((velocityLevel vel.val a.toNat).toNat : Int) = 65535 - (127 - (vel.val : Int)) * 512 * a.toNat / 4096 := by
  have hmin : 0 ≤ (127 - (vel.val : Int)) * a.toNat := Int.mul_nonneg (by omega) (by omega)
  have hmax : (127 - (vel.val : Int)) * a.toNat ≤ 127 * 4095 := Int.mul_le_mul (by omega) (by omega) (by omega) (by omega)
  have hcomm : (127 - (vel.val : Int)) * 512 * a.toNat = 512 * ((127 - (vel.val : Int)) * a.toNat) := by
    rw [Int.mul_comm _ 512, Int.mul_assoc]
  apply toNat_ofInt_word <;> omega

theorem clampPitch_eq (x : Int) : clampPitch x = max 0 (min 32767 x) := by
  unfold clampPitch clampInt
  split
  · omega
  · split <;> omega

theorem anyClampActs_eq (s : State) (p : PartId) (v : VoiceId) (q : Int) : anyClampActs s p v q =
    decide ((oscSum s p v q 0 1 < 0 ∨ 32767 < oscSum s p v q 0 1) ∨ (oscSum s p v q 2 3 < 0 ∨ 32767 < oscSum s p v q 2 3) ∨
      (filterSum s p q < 0 ∨ 32767 < filterSum s p q)) := by
  simp only [anyClampActs, clampActs, Bool.or_assoc, Bool.decide_or]

theorem unisonOffset_alone {n i u : Int} (h : ¬2 ≤ n) : unisonOffset n i u = 0 := if_pos (by omega)

/-- The unison offset in a group of two or more, with sign and size written out (R61). -/
theorem unisonOffset_grouped {n i u : Int} (h : 2 ≤ n) : unisonOffset n i u =
    if 2 * i - n + 1 < 0 then -(max (2 * i - n + 1) (-(2 * i - n + 1)) * u / (2 * (n - 1)))
    else if 0 < 2 * i - n + 1 then max (2 * i - n + 1) (-(2 * i - n + 1)) * u / (2 * (n - 1))
    else 0 := by
  have habs (m : Int) : absInt m = max m (-m) := by unfold absInt; split <;> omega
  rw [unisonOffset, if_neg (by omega), habs, signInt]
  generalize max (2 * i - n + 1) (-(2 * i - n + 1)) * u / (2 * (n - 1)) = spread
  split
  · exact Int.neg_one_mul spread
  · split
    · exact Int.one_mul spread
    · exact Int.zero_mul spread

/-! ## Computations of one voice after another (R55) -/

theorem soundsFor_computeVoice (v : VoiceId) (s : State) : soundsFor (computeVoice v s) = soundsFor s := by
  funext p u
  rw [soundsFor, computeVoice_pitchedAs]
  rfl

theorem soundsFor_forEach_computeVoice (vs : List VoiceId) (s : State) : soundsFor (forEach vs computeVoice s) = soundsFor s := by
  induction vs generalizing s with
  | nil => rfl
  | cons v vs ih => rw [forEach_cons, ih, soundsFor_computeVoice]

/-- The sounding voices of some parts, part by part. -/
def soundingOf (s : State) (ps : List PartId) : List VoiceId := ps.flatMap (fun p => allVoices.filter (soundsFor s p))

theorem forEach_computePart (ps : List PartId) (s : State) :
    forEach ps computePart s = forEach (soundingOf s ps) computeVoice s := by
  induction ps generalizing s with
  | nil => rfl
  | cons p ps ih =>
    rw [forEach_cons, ih, soundingOf, soundingOf, List.flatMap_cons, forEach_append, computePart, soundsFor_forEach_computeVoice]

theorem soundsFor_iff {s : State} {p : PartId} {v : VoiceId} :
    soundsFor s p v = true ↔ (s.voice v).state.sounding = true ∧ (s.voice v).owner = some p := by
  simp only [soundsFor, Bool.and_eq_true, decide_eq_true_eq]

theorem mem_soundingOf {s : State} {ps : List PartId} {v : VoiceId} :
    v ∈ soundingOf s ps ↔ (s.voice v).state.sounding = true ∧ ∃ p, (s.voice v).owner = some p ∧ p ∈ ps := by
  have hv : v ∈ allVoices := List.mem_finRange v
  simp only [soundingOf, List.mem_flatMap, List.mem_filter, soundsFor_iff, hv, true_and]
  exact ⟨fun ⟨p, hp, hs, ho⟩ => ⟨hs, p, ho, hp⟩, fun ⟨hs, p, ho, hp⟩ => ⟨p, hp, hs, ho⟩⟩

/-- No voice is listed twice: it has one owner. -/
theorem soundingOf_nodup (s : State) {ps : List PartId} (h : ps.Nodup) : (soundingOf s ps).Nodup := by
  refine List.pairwise_flatMap.mpr ⟨fun p _ => (List.nodup_finRange 16).filter _, h.imp fun {p q} hne v hv w hw e => ?_⟩
  subst e
  obtain ⟨-, hp⟩ := soundsFor_iff.mp (List.mem_filter.mp hv).2
  obtain ⟨-, hq⟩ := soundsFor_iff.mp (List.mem_filter.mp hw).2
  exact hne (Option.some.inj (hp.symm.trans hq))

/-- The parts that select a scale of a run of SCALE entries (R55). -/
def selecting (first n : Nat) (s : State) : List PartId :=
  allParts.filter (fun p => first < 12 * ((s.part p).scale.val + 1) && 12 * (s.part p).scale.val < first + n)

theorem mem_selecting {first n : Nat} {s : State} {p : PartId} :
    p ∈ selecting first n s ↔ first < 12 * ((s.part p).scale.val + 1) ∧ 12 * (s.part p).scale.val < first + n := by
  have hp : p ∈ allParts := List.mem_finRange p
  simp only [selecting, List.mem_filter, hp, Bool.and_eq_true, decide_eq_true_eq, true_and]

theorem recomputeScales_spec (first n : Nat) (s : State) :
    PitchFrame s (recomputeScales first n s) ∧
      (∀ v ∈ soundingOf s (selecting first n s), voiceKept (computeVoice v s) (recomputeScales first n s) v) ∧
      ∀ v ∉ soundingOf s (selecting first n s), voiceKept s (recomputeScales first n s) v := by
  have h : recomputeScales first n s = forEach (soundingOf s (selecting first n s)) computeVoice s := forEach_computePart _ s
  rw [h]
  exact computeVoice_actsPerVoice.forEach_spec (soundingOf_nodup s ((List.nodup_finRange 4).filter _)) s

/-- R55: the sounding voices of the parts that select a scale of the run are computed again, and no other. -/
theorem recomputeScales_voices (first n : Nat) (s : State) (v : VoiceId) :
    let t := recomputeScales first n s
    let chosen := (s.voice v).state.sounding = true ∧ ∃ p, (s.voice v).owner = some p ∧
      first < 12 * ((s.part p).scale.val + 1) ∧ 12 * (s.part p).scale.val < first + n
    (chosen → isComputed t v ∧ t.voice v = (s.voice v).pitchedAs (t.voice v) ∧ routedKept s t v) ∧
      (¬chosen → t.voice v = s.voice v ∧ t.pitch.slots[v] = s.pitch.slots[v] ∧ t.pitch.target[v] = s.pitch.target[v]) := by
  intro t chosen
  obtain ⟨hframe, hin, hout⟩ := recomputeScales_spec first n s
  have hmem : v ∈ soundingOf s (selecting first n s) ↔ chosen := by simp only [mem_soundingOf, mem_selecting]; rfl
  refine ⟨fun h => computed_of_voiceKept hframe (hin v (hmem.mpr h)), fun h => ?_⟩
  obtain ⟨hrec, htarget, hslots⟩ := hout v (fun hv => h (hmem.mp hv))
  exact ⟨hrec, hslots, htarget⟩

/-! ## The computation written out (R56 to R68) -/

theorem computedSlots_codes (s : State) (p : PartId) (v : VoiceId) (q : Int) (vel : Key) :
    (computedSlots s p v q vel)[0] = convert (s.cal v .oscA).codes (clampPitch (oscSum s p v q 0 1)) ∧
      (computedSlots s p v q vel)[1] = convert (s.cal v .oscB).codes (clampPitch (oscSum s p v q 2 3)) ∧
      (computedSlots s p v q vel)[2] = convert (filterCodes (s.cal v .filter)) (clampPitch (filterSum s p q)) ∧
      (computedSlots s p v q vel)[3] = velocityLevel vel.val (pm s p 10) :=
  setEngineSlots_engine _ _ _ _ _

theorem notePitch_eq (s : State) (p : PartId) (k : Key) : notePitch k.val (scaleOffset s p k) =
    256 * (k.val : Int) + s.pitch.scale[12 * (s.part p).scale.val + k.val % 12]'(by omega) := by
  have h : 12 * (s.part p).scale.val + k.val % 12 < 48 := by omega
  simp only [notePitch, scaleOffset, h, getElem?_pos, Option.getD_some]

/-- Settles O32: each quantity of the statement is the one `computeFor` forms, under its name in the model. -/
theorem computationSetsSlots : Obligations.ComputationSetsSlots := by
  refine ⟨?_, convert_interpolates, fun r => ⟨filterCodes_valid, filterCodes_void⟩, ?_⟩
  · intro s v p k vel hs ho hk hv pm N q B n m spread U a b f clamp t
    have ht : t = computeFor v p k vel s := computeVoice_of_plays ⟨hs, ho, hk, hv⟩
    have hN : notePitch k.val (scaleOffset s p k) = N := notePitch_eq s p k
    have hq : computedQ s p v k = q := by
      rw [computedQ, hN]
      rfl
    have hU : voiceUnison s p v = U := by
      by_cases hmode : (s.part p).mode = .unison
      · rw [voiceUnison, if_pos hmode]
        by_cases hn : 2 ≤ n
        · exact (unisonOffset_grouped hn).trans (if_pos ⟨hmode, hn⟩).symm
        · exact (unisonOffset_alone hn).trans (if_neg (fun h => hn h.2)).symm
      · rw [voiceUnison, if_neg hmode]
        exact (if_neg (fun h => hmode h.1)).symm
    have ha : oscSum s p v q 0 1 = a := by rw [oscSum, hU]; rfl
    have hb : oscSum s p v q 2 3 = b := by rw [oscSum, hU]; rfl
    have hf : filterSum s p q = f := rfl
    have hrec := computeFor_voice_same v p k vel s
    have htarget := computeFor_target_same v p k vel s
    have hslots := computeFor_slots_same v p k vel s
    obtain ⟨h0, h1, h2, h3⟩ := computedSlots_codes s p v q vel
    rw [← ht, hq, anyClampActs_eq, ha, hb, hf] at hrec
    rw [← ht, hN] at htarget
    rw [← ht, hq] at hslots
    rw [ha, clampPitch_eq] at h0
    rw [hb, clampPitch_eq] at h1
    rw [hf, clampPitch_eq] at h2
    have hframe : PitchFrame s t := computeVoice_actsPerVoice.frame v s
    rw [← hslots] at h0 h1 h2 h3
    refine ⟨hrec, h0, h1, h2, ?_, computeVoice_routedKept v s, htarget, fun u hu => ?_, hframe.rest⟩
    · exact (congrArg (fun x : Word => (x.toNat : Int)) h3).trans (velocityLevel_toNat vel _)
    · obtain ⟨hrec', -, hslots'⟩ := computeVoice_actsPerVoice.others v u s hu
      exact ⟨hrec', hslots'⟩
  · intro s first n
    have hframe := (recomputeScales_spec first n s).1
    exact ⟨recomputeScales_voices first n s, hframe.alloc, hframe.pitch, hframe.rest⟩

end Sys2Proof.Proofs.PitchAndSlots
end

section
/-! The Panel Scanner's rules (05_panel_scanning.md): where a scan round goes next, what a SCAN MAP write does, and what the filter of a
control makes of a sample. Settles O33, O34 and O35. -/

namespace Sys2Proof.Proofs.PanelScanning

open Sys2Proof Sys2Proof.Machine

/-! ## The next mapped input and address (R92) -/

/-- The first index at which a predicate holds is the one found. -/
theorem find?_finRange_first {n : Nat} {p : Fin n → Bool} {i : Fin n} (hi : p i = true) (hmin : ∀ j < i, p j = false) :
    (List.finRange n).find? p = some i := by
  rw [List.find?_eq_some_iff_getElem]
  refine ⟨hi, i.val, by rw [List.length_finRange]; exact i.isLt, ?_, fun j hj => ?_⟩
  · rw [List.getElem_finRange]
    rfl
  · rw [List.getElem_finRange]
    exact (congrArg _ (hmin ⟨j, Nat.lt_trans hj i.isLt⟩ hj)).trans Bool.not_false

theorem nextInput_first {s : State} {m : Fin 16} {lo : Nat} {a : Fin 6} (hlo : lo ≤ a.val) (ha : (mappedAt s a m).isSome = true)
    (hmin : ∀ b : Fin 6, lo ≤ b.val → b < a → (mappedAt s b m).isSome = false) : nextInput s m lo = some a := by
  refine find?_finRange_first (by simp only [hlo, ha, decide_true, Bool.and_self]) fun b hb => ?_
  by_cases h : lo ≤ b.val
  · simp only [hmin b h hb, Bool.and_false]
  · simp only [h, decide_false, Bool.false_and]

theorem nextInput_eq_none {s : State} {m : Fin 16} {lo : Nat} (h : ∀ b : Fin 6, lo ≤ b.val → (mappedAt s b m).isSome = false) :
    nextInput s m lo = none := by
  rw [nextInput, List.find?_eq_none]
  intro b _ hb
  obtain ⟨hlo, hmapped⟩ := Bool.and_eq_true_iff.mp hb
  exact Bool.false_ne_true ((h b (of_decide_eq_true hlo)).symm.trans hmapped)

theorem nextInput_isSome {s : State} {m : Fin 16} {a : Fin 6} (ha : (mappedAt s a m).isSome = true) :
    (nextInput s m 0).isSome = true := by
  rw [nextInput, List.find?_isSome]
  exact ⟨a, List.mem_finRange a, by simp only [ha, Nat.zero_le, decide_true, Bool.and_self]⟩

theorem nextAddress_first {s : State} {lo : Nat} {m : Fin 16} {a : Fin 6} (hlo : lo ≤ m.val) (ha : (mappedAt s a m).isSome = true)
    (hmin : ∀ k : Fin 16, lo ≤ k.val → k < m → ∀ b, (mappedAt s b k).isSome = false) : nextAddress s lo = some m := by
  refine find?_finRange_first (by simp only [hlo, nextInput_isSome ha, decide_true, Bool.and_self]) fun k hk => ?_
  by_cases h : lo ≤ k.val
  · simp only [nextInput_eq_none fun b _ => hmin k h hk b, Option.isSome_none, Bool.and_false]
  · simp only [h, decide_false, Bool.false_and]

theorem nextAddress_eq_none {s : State} {lo : Nat} (h : ∀ k : Fin 16, lo ≤ k.val → ∀ b, (mappedAt s b k).isSome = false) :
    nextAddress s lo = none := by
  rw [nextAddress, List.find?_eq_none]
  intro k _ hk
  obtain ⟨hlo, hmapped⟩ := Bool.and_eq_true_iff.mp hk
  rw [nextInput_eq_none fun b _ => h k (of_decide_eq_true hlo) b] at hmapped
  exact Bool.false_ne_true hmapped

/-! ## Where a round goes (R92) -/

/-- The round settles at an address, which is driven. -/
def settlingAt (k : Fin 16) (s : State) : State :=
  s.withPanel { s.panel with round := .settling k, roundTimer := some 80, mxa := k }

/-- The round converts an input at an address. -/
def convertingAt (m : Fin 16) (a : Fin 6) (s : State) : State :=
  s.withPanel { s.panel with round := .converting m a, roundTimer := some 80 }

/-- The round has ended, MXA kept. -/
def roundOver (s : State) : State := s.withPanel { s.panel with round := .none, roundTimer := none }

theorem driveFrom_settles {s : State} {lo : Nat} {k : Fin 16} (h : nextAddress s lo = some k) : driveFrom lo s = settlingAt k s := by
  simp only [driveFrom, h]
  rfl

theorem driveFrom_ends {s : State} {lo : Nat} (h : nextAddress s lo = none) : driveFrom lo s = roundOver s := by
  simp only [driveFrom, h]
  rfl

theorem convertFrom_converts {s : State} {m : Fin 16} {lo : Nat} {a : Fin 6} (h : nextInput s m lo = some a) :
    convertFrom m lo s = convertingAt m a s := by
  simp only [convertFrom, h]
  rfl

theorem convertFrom_leaves {s : State} {m : Fin 16} {lo : Nat} (h : nextInput s m lo = none) :
    convertFrom m lo s = driveFrom (m.val + 1) s := by
  simp only [convertFrom, h]

theorem startScanTimer_eq (s : State) :
    startScanTimer s = s.withPanel { s.panel with scanTimer := some (16000 * s.store.options.scanPeriod) } := by
  rw [startScanTimer, ms, Nat.mul_comm]
  rfl

/-! ## The three commands, in turn -/

theorem exec_scanRound {s : State} {n : Nat} (hrun : s.inReset = false) (htimer : s.panel.scanTimer = some n)
    (hround : s.panel.round = .none) : exec .scanRound s = .next (driveFrom 0 (startScanTimer s)) := by
  have hexec : exec .scanRound s = execScanRound s := rfl
  simp only [hexec, execScanRound, act_running hrun, htimer, hround]

theorem exec_scanSettle {s : State} {m : Fin 16} (hrun : s.inReset = false) (hround : s.panel.round = .settling m) :
    exec .scanSettle s = .next (convertFrom m 0 s) := by
  have hexec : exec .scanSettle s = execScanSettle s := rfl
  simp only [hexec, execScanSettle, act_running hrun, hround]

theorem exec_scanSample {s : State} {m : Fin 16} {a : Fin 6} (x : Word12) (hrun : s.inReset = false)
    (hround : s.panel.round = .converting m a) :
    exec (.scanSample x) s = .next (convertFrom m (a.val + 1) (takeSample m a x s)) := by
  have hexec : exec (.scanSample x) s = execScanSample x s := rfl
  simp only [hexec, execScanSample, act_running hrun, hround]

/-! ## A sample leaves the SCAN MAP as it is -/

theorem change_scanMap {s t : State} (h : Change false s t) : t.panel.scanMap = s.panel.scanMap := by
  cases h with
  | panel x h =>
    obtain ⟨hmap, -⟩ := h rfl
    exact hmap
  | remove e => unfold removeEntry; split <;> rfl
  | regate v => unfold regate; split <;> rfl
  | restart h => exact absurd h Bool.false_ne_true
  | _ => rfl

theorem changes_scanMap {s t : State} (h : Changes false s t) : t.panel.scanMap = s.panel.scanMap := by
  induction h with
  | refl => rfl
  | snoc _ hc ih => exact (change_scanMap hc).trans ih

theorem takeSample_scanMap (m : Fin 16) (a : Fin 6) (x : Word12) (s : State) :
    (takeSample m a x s).panel.scanMap = s.panel.scanMap := changes_scanMap (takeSample_changes m a x .refl)

theorem mappedAt_congr {s u : State} (h : u.panel.scanMap = s.panel.scanMap) (a : Fin 6) (m : Fin 16) :
    mappedAt u a m = mappedAt s a m := by rw [mappedAt, mappedAt, h]

/-- A command that ends with the inputs of an address done, in a state with the SCAN MAP of `s`: the next address mapped in `s`
settles, or the round ends. -/
theorem exec_leaves {c : Instr} {s u : State} {m : Fin 16} (hexec : exec c s = .next (driveFrom (m.val + 1) u))
    (hmap : u.panel.scanMap = s.panel.scanMap) :
    (∀ (k : Fin 16) (b : Fin 6), m < k → (mappedAt s b k).isSome = true →
      (∀ j, m < j → j < k → ∀ b, (mappedAt s b j).isSome = false) → exec c s = .next (settlingAt k u)) ∧
    ((∀ k, m < k → ∀ b, (mappedAt s b k).isSome = false) → exec c s = .next (roundOver u)) := by
  simp only [hexec, ← mappedAt_congr hmap]
  exact ⟨fun k b hk hb hmin => congrArg _ (driveFrom_settles (nextAddress_first hk hb fun j hj => hmin j hj)),
    fun hnone => congrArg _ (driveFrom_ends (nextAddress_eq_none fun k hk => hnone k hk))⟩

/-- A sample with a further mapped input at its address: the filter acts, then that input is converted. -/
theorem exec_scanSample_further {s : State} {m : Fin 16} {a b : Fin 6} (x : Word12) (hrun : s.inReset = false)
    (hround : s.panel.round = .converting m a) (hab : a < b) (hb : (mappedAt s b m).isSome = true)
    (hmin : ∀ d, a < d → d < b → (mappedAt s d m).isSome = false) :
    exec (.scanSample x) s = .next (convertingAt m b (takeSample m a x s)) := by
  simp only [← mappedAt_congr (takeSample_scanMap m a x s)] at hb hmin
  rw [exec_scanSample x hrun hround, convertFrom_converts (nextInput_first hab hb fun d hd => hmin d hd)]

/-! ## The runtime state of a control -/

theorem modControlState_same (c : ControlId) (f : ControlState → ControlState) (s : State) :
    (modControlState c f s).panel.states[c] = f s.panel.states[c] := Vector.getElem_set_self c.isLt

theorem modControlState_other {c d : ControlId} (h : d ≠ c) (f : ControlState → ControlState) (s : State) :
    (modControlState c f s).panel.states[d] = s.panel.states[d] :=
  Vector.getElem_set_ne c.isLt d.isLt fun e => h (Fin.ext e.symm)

/-! ## SCAN MAP writes (R94) -/

theorem clearRunOf_states (c : Option ControlId) (s : State) (d : ControlId) : (clearRunOf c s).panel.states[d] =
    if c = some d then { s.panel.states[d] with runCount := 0 } else s.panel.states[d] := by
  cases c with
  | none => rfl
  | some c =>
    by_cases h : c = d
    · subst h
      exact (modControlState_same c _ s).trans (if_pos rfl).symm
    · exact (modControlState_other (Ne.symm h) _ s).trans (if_neg fun e => h (Option.some.inj e)).symm

/-- Nothing but the states of controls is cleared. -/
theorem clearRunOf_frame (c : Option ControlId) (s : State) (x : Panel) :
    ∃ states, clearRunOf c (s.withPanel x) = s.withPanel { x with states } := by
  cases c with
  | none => exact ⟨x.states, rfl⟩
  | some c => exact ⟨_, rfl⟩

/-- The SCAN MAP once control or none `c` has been written to entry `i`. -/
def remapped (i : Fin 96) (c : Option ControlId) (map : Vector (Option ControlId) 96) : Vector (Option ControlId) 96 :=
  (mapVec (fun d => if c.isSome ∧ d = c then none else d) map).set i c

theorem remapped_same (i : Fin 96) (c : Option ControlId) (map : Vector (Option ControlId) 96) : (remapped i c map)[i] = c :=
  Vector.getElem_set_self i.isLt

theorem remapped_other {i k : Fin 96} (h : k ≠ i) (c : Option ControlId) (map : Vector (Option ControlId) 96) :
    (remapped i c map)[k] = if c ≠ none ∧ map[k] = c then none else map[k] := by
  have hset : (remapped i c map)[k] = (mapVec (fun d => if c.isSome ∧ d = c then none else d) map)[k] :=
    Vector.getElem_set_ne i.isLt k.isLt fun e => h (Fin.ext e.symm)
  simp only [hset, mapVec_get, Option.isSome_iff_ne_none]

theorem writeScanEntry_kept {s : State} {i : Fin 96} {c : Option ControlId} (h : s.panel.scanMap[i] = c) : writeScanEntry i c s = s :=
  if_pos h

theorem writeScanEntry_changed {s : State} {i : Fin 96} {c : Option ControlId} (h : s.panel.scanMap[i] ≠ c) : writeScanEntry i c s =
    clearRunOf c (clearRunOf s.panel.scanMap[i] (s.withPanel { s.panel with scanMap := remapped i c s.panel.scanMap })) := if_neg h

theorem writeScanEntry_frame {s : State} {i : Fin 96} {c : Option ControlId} (h : s.panel.scanMap[i] ≠ c) :
    ∃ states, writeScanEntry i c s = s.withPanel { s.panel with scanMap := remapped i c s.panel.scanMap, states } := by
  obtain ⟨old, hold⟩ := clearRunOf_frame s.panel.scanMap[i] s { s.panel with scanMap := remapped i c s.panel.scanMap }
  obtain ⟨new, hnew⟩ := clearRunOf_frame c s { s.panel with scanMap := remapped i c s.panel.scanMap, states := old }
  exact ⟨new, by rw [writeScanEntry_changed h, hold, hnew]⟩

theorem writeScanEntry_states {s : State} {i : Fin 96} {c : Option ControlId} (h : s.panel.scanMap[i] ≠ c) (d : ControlId) :
    (writeScanEntry i c s).panel.states[d] =
      if c = some d ∨ s.panel.scanMap[i] = some d then { s.panel.states[d] with runCount := 0 } else s.panel.states[d] := by
  rw [writeScanEntry_changed h, clearRunOf_states, clearRunOf_states]
  by_cases hnew : c = some d <;> by_cases hold : s.panel.scanMap[i] = some d <;>
    simp only [hnew, hold, if_true, if_false, or_true, or_false, or_self, State.withPanel_panel]

/-- Settles O33: where a round goes follows from the first mapped input and address of the SCAN MAP, which no sample changes. -/
theorem scanRoundOrder : Obligations.ScanRoundOrder := by
  refine ⟨fun s n m a hrun => ⟨?_, ?_, ?_⟩, fun s m a x hrun => ⟨?_, ?_, ?_⟩, fun s i c => ⟨writeScanEntry_kept, fun hne => ?_⟩⟩
  · intro htimer hround ha hmin
    rw [exec_scanRound hrun htimer hround,
      driveFrom_settles (nextAddress_first (s := startScanTimer s) (Nat.zero_le _) ha fun k _ => hmin k)]
    rw [startScanTimer_eq]
    rfl
  · intro htimer hround hnone
    rw [exec_scanRound hrun htimer hround, driveFrom_ends (nextAddress_eq_none (s := startScanTimer s) fun k _ => hnone k)]
    rw [startScanTimer_eq]
    rfl
  · intro hround ha hmin
    rw [exec_scanSettle hrun hround, convertFrom_converts (nextInput_first (Nat.zero_le _) ha fun b _ => hmin b)]
    rfl
  · intro hround hnone
    refine exec_leaves ?_ rfl
    rw [exec_scanSettle hrun hround, convertFrom_leaves (nextInput_eq_none fun b _ => hnone b)]
  · intro hround hnone
    have hmap := takeSample_scanMap m a x s
    refine exec_leaves (u := takeSample m a x s) ?_ hmap
    rw [exec_scanSample x hrun hround, convertFrom_leaves (nextInput_eq_none fun b hb => ?_)]
    rw [mappedAt_congr hmap]
    exact hnone b hb
  · intro b hround hab hb hmin
    exact exec_scanSample_further x hrun hround hab hb hmin
  · obtain ⟨states, hframe⟩ := writeScanEntry_frame hne
    have hpanel : (writeScanEntry i c s).panel = { s.panel with scanMap := remapped i c s.panel.scanMap, states } := by
      rw [hframe, State.withPanel_panel]
    refine ⟨?_, fun k hk => ?_, writeScanEntry_states hne, ?_, ?_⟩
    · rw [hpanel, remapped_same]
    · rw [hpanel, remapped_other hk]
    · rw [hpanel]
    · rw [hframe, State.withPanel]

/-! ## Evaluations and accepted changes (R89, R102, R103) -/

/-- Only a control bound with PICKUP is evaluated. -/
theorem evaluate_idle {s : State} {c : ControlId}
    (h : s.panel.controls[c].binding = none ∨ s.panel.controls[c].takeover = .jump) : evaluate c s = s := by
  unfold evaluate
  split
  next hbound hpickup _ =>
    rcases h with h | h
    · exact nomatch hbound.symm.trans h
    · exact nomatch hpickup.symm.trans h
  next => rfl

/-- An unbound control's change is reported as applied, where both report settings are on (R103). -/
theorem acceptChange_unbound_told {s : State} {c : ControlId} (v : Word12) (hfree : s.panel.controls[c].binding = none)
    (hreport : s.panel.controls[c].report = true) (hpanel : s.store.options.panelReport = true) (hready : s.req.phase = .ready) :
    acceptChange c v s = s.withLink (noticedLink (.controlChange c v false) s.link) := by
  simp only [acceptChange, hfree, reportChangeOf, hreport, hpanel, Bool.and_self, if_true, offerNotice_ready hready]
  rfl

theorem acceptChange_unbound_silent {s : State} {c : ControlId} (v : Word12) (hfree : s.panel.controls[c].binding = none)
    (hreport : s.panel.controls[c].report = false) : acceptChange c v s = s := by
  simp only [acceptChange, hfree, reportChangeOf, hreport, Bool.false_and, Bool.false_eq_true, if_false]

/-! ## The filters, case by case (R99 to R101) -/

/-- The state with the runtime state of a control replaced. -/
def putState (c : ControlId) (y : ControlState) (s : State) : State :=
  s.withPanel { s.panel with states := s.panel.states.set c y }

theorem modControlState_eq (c : ControlId) (f : ControlState → ControlState) (s : State) :
    modControlState c f s = putState c (f s.panel.states[c]) s := rfl

/-- The runtime state of a primed control with another run count, written out. -/
theorem putState_primed {s : State} {c : ControlId} {r : Word12} (h : s.panel.states[c].reported = some r) (n : Nat) :
    putState c { s.panel.states[c] with runCount := n } s = putState c { reported := some r, runCount := n } s := by rw [← h]

theorem growRun_short {s : State} {c : ControlId} (v : Word12)
    (h : s.panel.states[c].runCount + 1 < persistenceOf s.panel.controls[c].persistence) :
    growRun c v s = putState c { s.panel.states[c] with runCount := s.panel.states[c].runCount + 1 } s := by
  rw [growRun, if_pos h, modControlState_eq]

theorem growRun_full {s : State} {c : ControlId} (v : Word12)
    (h : persistenceOf s.panel.controls[c].persistence ≤ s.panel.states[c].runCount + 1) :
    growRun c v s = acceptChange c v (putState c { reported := some v, runCount := 0 } s) := by
  rw [growRun, if_neg (Nat.not_lt.mpr h), modControlState_eq]

theorem filterSample_priming {s : State} {c : ControlId} {x v : Word12} (hr : s.panel.states[c].reported = none)
    (hv : primingValue s.panel.controls[c].type x = some v) : filterSample c x s =
      evaluate c (putState c { reported := some v, runCount := s.panel.states[c].runCount } s) := by
  simp only [filterSample, hr, primeControl, hv, modControlState_eq]

theorem filterSample_unprimed {s : State} {c : ControlId} {x : Word12} (hr : s.panel.states[c].reported = none)
    (hv : primingValue s.panel.controls[c].type x = none) : filterSample c x s = s := by
  simp only [filterSample, hr, primeControl, hv]

theorem filterSample_quiet {s : State} {c : ControlId} {x r : Word12} (hr : s.panel.states[c].reported = some r)
    (hq : qualifies s.panel.controls[c] r x = none) :
    filterSample c x s = putState c { s.panel.states[c] with runCount := 0 } s := by
  simp only [filterSample, hr, hq, clearRun, modControlState_eq]

theorem filterSample_qualifies {s : State} {c : ControlId} {x r v : Word12} (hr : s.panel.states[c].reported = some r)
    (hq : qualifies s.panel.controls[c] r x = some v) : filterSample c x s = growRun c v s := by
  simp only [filterSample, hr, hq]

/-! ## The knob filter (R100) -/

theorem absInt_distance (x r : Nat) : absInt ((x : Int) - r) = ((max x r - min x r : Nat) : Int) := by
  unfold absInt
  split <;> omega

theorem qualifies_knob_inBand {k : ControlCfg} {r x : Word12} (hk : k.type = .knob)
    (h : max x.toNat r.toNat - min x.toNat r.toNat ≤ k.deadBand.toNat) : qualifies k r x = none := by
  simp only [qualifies, hk, absInt_distance, Int.ofNat_le, h, if_true]

theorem qualifies_knob_outOfBand {k : ControlCfg} {r x : Word12} (hk : k.type = .knob)
    (h : k.deadBand.toNat < max x.toNat r.toNat - min x.toNat r.toNat) : qualifies k r x = some x := by
  simp only [qualifies, hk, absInt_distance, Int.ofNat_le, Nat.not_le.mpr h, if_false]

/-- Settles O34: the control mapped at the position filters the sample, then the round goes on to the further input. -/
theorem knobFilter : Obligations.KnobFilter := by
  intro s m a b c x r hrun hround hmap hab hb hmin hknob hr distance moved P
  have hexec {w : State} (h : filterSample c x s = w) : exec (.scanSample x) s = .next (convertingAt m b w) := by
    have hat : mappedAt s a m = some c := hmap
    rw [exec_scanSample_further x hrun hround hab hb hmin, takeSample, hat, ← h]
  have hgrows (hout : s.panel.controls[c].deadBand.toNat < distance) : filterSample c x s = growRun c x s :=
    filterSample_qualifies hr (qualifies_knob_outOfBand hknob hout)
  refine ⟨fun hin => hexec (filterSample_quiet hr (qualifies_knob_inBand hknob hin)),
    fun hout hP => hexec ((hgrows hout).trans (growRun_short x hP)),
    fun hout hP => hexec ((hgrows hout).trans (growRun_full x hP)),
    fun hout hP hfree hreport hpanel hready => ?_⟩
  have htold := acceptChange_unbound_told (s := putState c { reported := some x, runCount := 0 } s) x hfree hreport hpanel hready
  exact hexec ((hgrows hout).trans ((growRun_full x hP).trans htold))

/-! ## The switch filter and priming (R99, R101) -/

theorem switchLevel_on {x : Word12} (h : 2867 ≤ x.toNat) : switchLevel x = some 4095 := if_pos h

theorem switchLevel_off {x : Word12} (h : x.toNat ≤ 1228) : switchLevel x = some 0 := by
  rw [switchLevel, if_neg (by omega), if_pos h]

theorem switchLevel_between {x : Word12} (hlo : 1228 < x.toNat) (hhi : x.toNat < 2867) : switchLevel x = none := by
  rw [switchLevel, if_neg (by omega), if_neg (by omega)]

/-- The sample has the level opposite to the reported value (R101). -/
def oppositeLevel (r x : Word12) : Prop := (r = 0 ∧ 2867 ≤ x.toNat) ∨ (r = 4095 ∧ x.toNat ≤ 1228)

theorem qualifies_switch_opposite {k : ControlCfg} {r x : Word12} (hk : k.type = .switch) (h : oppositeLevel r x) :
    qualifies k r x = some (if r = 0 then 4095 else 0) := by
  obtain ⟨rfl, hx⟩ | ⟨rfl, hx⟩ := h
  · simp only [qualifies, hk, switchLevel_on hx]
    decide
  · simp only [qualifies, hk, switchLevel_off hx]
    decide

/-- A level that is not the opposite one is that of the reported value, or neither. -/
theorem qualifies_switch_same {k : ControlCfg} {r x : Word12} (hk : k.type = .switch) (hr : r = 0 ∨ r = 4095)
    (h : ¬oppositeLevel r x) : qualifies k r x = none := by
  simp only [qualifies, hk]
  by_cases hon : 2867 ≤ x.toNat
  · have : 4095 = r := hr.elim (fun h0 => absurd (.inl ⟨h0, hon⟩) h) Eq.symm
    simp only [switchLevel_on hon, this, if_true]
  by_cases hoff : x.toNat ≤ 1228
  · have : 0 = r := hr.elim Eq.symm (fun h1 => absurd (.inr ⟨h1, hoff⟩) h)
    simp only [switchLevel_off hoff, this, if_true]
  · simp only [switchLevel_between (Nat.lt_of_not_le hoff) (Nat.lt_of_not_le hon)]

/-- Settles O35: priming gives the value of the control's type and evaluates a control bound with PICKUP; a primed SWITCH runs on the
opposite level. -/
theorem switchFilterAndPriming : Obligations.SwitchFilterAndPriming := by
  intro s c x put run P primes
  have hprimes (v : Word12) (hr : s.panel.states[c].reported = none) (hv : primingValue s.panel.controls[c].type x = some v) :
      primes v :=
    ⟨fun hidle => (filterSample_priming hr hv).trans (evaluate_idle hidle), fun _ _ _ _ => filterSample_priming hr hv⟩
  refine ⟨fun hr hknob => hprimes x hr (by rw [hknob]; rfl), fun hr hswitch => ?_, ?_⟩
  · have hlevel : primingValue s.panel.controls[c].type x = switchLevel x := by rw [hswitch]; rfl
    exact ⟨fun hon => hprimes 4095 hr (hlevel.trans (switchLevel_on hon)), fun hoff => hprimes 0 hr (hlevel.trans (switchLevel_off hoff)),
      fun hlo hhi => filterSample_unprimed hr (hlevel.trans (switchLevel_between hlo hhi))⟩
  · intro r hr hswitch opposite changed
    have hgrows (h : opposite) : filterSample c x s = growRun c (if r = 0 then 4095 else 0) s :=
      filterSample_qualifies hr (qualifies_switch_opposite hswitch h)
    have haccepts (h : opposite) (hP : P ≤ run + 1) : filterSample c x s = acceptChange c (if r = 0 then 4095 else 0) changed :=
      (hgrows h).trans (growRun_full _ hP)
    refine ⟨fun hlevel hsame => ?_, fun h hP => ?_, haccepts, fun h hP hfree hreport => ?_⟩
    · exact (filterSample_quiet hr (qualifies_switch_same hswitch hlevel hsame)).trans (putState_primed hr 0)
    · exact (hgrows h).trans ((growRun_short _ hP).trans (putState_primed hr (run + 1)))
    · exact (haccepts h hP).trans (acceptChange_unbound_silent (s := changed) _ hfree hreport)

end Sys2Proof.Proofs.PanelScanning
end
